-- ==== Sys2Proof/Word.lean ====
section
/-! DEFINITION. The word types of the core: 8-bit bytes and 16-bit words (spec 00_scope.md R8, R16). -/

namespace Sys2Proof

/-- A u8 of 00_scope.md R16: register contents, operand bytes, memory bytes. -/
abbrev Byte := BitVec 8

/-- A u16 of 00_scope.md R16: addresses and the program counter. -/
abbrev Word := BitVec 16

end Sys2Proof
end

