-- ==== Sys2Proof/Syntax.lean ====
section
/-! DEFINITION. The abstract syntax: operations, addressing modes, operands, and the instructions, one constructor per row of
spec/opcode_table.json (spec 30_encoding.md R90 to R97). -/

namespace Sys2Proof

/-- The 75 mnemonics of 30_encoding.md R96, in its order: 56 documented, 18 undocumented, JAM. -/
inductive Operation where
  | adc | and | asl | bcc | bcs | beq | bit | bmi | bne | bpl | brk | bvc | bvs | clc | cld | cli
  | clv | cmp | cpx | cpy | dec | dex | dey | eor | inc | inx | iny | jmp | jsr | lda | ldx | ldy
  | lsr | nop | ora | pha | php | pla | plp | rol | ror | rti | rts | sbc | sec | sed | sei | sta
  | stx | sty | tax | tay | tsx | txa | txs | tya | slo | rla | sre | rra | dcp | isc | lax | sax
  | axs | anc | alr | arr | xaa | las | tas | ahx | shx | shy | jam
deriving DecidableEq, Repr

/-- The mnemonic lookup of the diagnostics port (00_scope.md R14, 30_encoding.md R100). -/
def Operation.mnemonic : Operation → String
  | .adc => "ADC"
  | .and => "AND"
  | .asl => "ASL"
  | .bcc => "BCC"
  | .bcs => "BCS"
  | .beq => "BEQ"
  | .bit => "BIT"
  | .bmi => "BMI"
  | .bne => "BNE"
  | .bpl => "BPL"
  | .brk => "BRK"
  | .bvc => "BVC"
  | .bvs => "BVS"
  | .clc => "CLC"
  | .cld => "CLD"
  | .cli => "CLI"
  | .clv => "CLV"
  | .cmp => "CMP"
  | .cpx => "CPX"
  | .cpy => "CPY"
  | .dec => "DEC"
  | .dex => "DEX"
  | .dey => "DEY"
  | .eor => "EOR"
  | .inc => "INC"
  | .inx => "INX"
  | .iny => "INY"
  | .jmp => "JMP"
  | .jsr => "JSR"
  | .lda => "LDA"
  | .ldx => "LDX"
  | .ldy => "LDY"
  | .lsr => "LSR"
  | .nop => "NOP"
  | .ora => "ORA"
  | .pha => "PHA"
  | .php => "PHP"
  | .pla => "PLA"
  | .plp => "PLP"
  | .rol => "ROL"
  | .ror => "ROR"
  | .rti => "RTI"
  | .rts => "RTS"
  | .sbc => "SBC"
  | .sec => "SEC"
  | .sed => "SED"
  | .sei => "SEI"
  | .sta => "STA"
  | .stx => "STX"
  | .sty => "STY"
  | .tax => "TAX"
  | .tay => "TAY"
  | .tsx => "TSX"
  | .txa => "TXA"
  | .txs => "TXS"
  | .tya => "TYA"
  | .slo => "SLO"
  | .rla => "RLA"
  | .sre => "SRE"
  | .rra => "RRA"
  | .dcp => "DCP"
  | .isc => "ISC"
  | .lax => "LAX"
  | .sax => "SAX"
  | .axs => "AXS"
  | .anc => "ANC"
  | .alr => "ALR"
  | .arr => "ARR"
  | .xaa => "XAA"
  | .las => "LAS"
  | .tas => "TAS"
  | .ahx => "AHX"
  | .shx => "SHX"
  | .shy => "SHY"
  | .jam => "JAM"

/-- The thirteen addressing modes (30_encoding.md R91). -/
inductive Mode where
  | implied | accumulator | immediate | zeropage | zeropageIndexedX | zeropageIndexedY | absolute
  | absoluteIndexedX | absoluteIndexedY | indirect | indexedIndirectX | indirectIndexedY | relative
deriving DecidableEq, Repr

/-- The number of operand bytes of a mode (30_encoding.md R91). -/
def Mode.operandBytes : Mode → Nat
  | .implied | .accumulator => 0
  | .immediate | .zeropage | .zeropageIndexedX | .zeropageIndexedY => 1
  | .indexedIndirectX | .indirectIndexedY | .relative => 1
  | .absolute | .absoluteIndexedX | .absoluteIndexedY | .indirect => 2

/-- The modes that resolve to `memory(EA)` (40_addressing.md R110), each with its operand byte or word. Only these have an
address, so the query of 60_exceptions.md R402 cannot be made. -/
inductive MemOperand where
  | zp (ad : Byte)
  | zpx (ad : Byte)
  | zpy (ad : Byte)
  | abs (w : Word)
  | abx (w : Word)
  | aby (w : Word)
  | izx (ad : Byte)
  | izy (ad : Byte)
deriving DecidableEq, Repr

/-- The mode of a memory operand. -/
def MemOperand.mode : MemOperand → Mode
  | .zp _ => .zeropage
  | .zpx _ => .zeropageIndexedX
  | .zpy _ => .zeropageIndexedY
  | .abs _ => .absolute
  | .abx _ => .absoluteIndexedX
  | .aby _ => .absoluteIndexedY
  | .izx _ => .indexedIndirectX
  | .izy _ => .indirectIndexedY

/-- An instruction's operand as its bytes give it (30_encoding.md R92): the operand access of 40_addressing.md R110 before
any bus access, and the two forms whose target goes to PC. -/
inductive Operand where
  | implied
  | accumulator
  | immediate (v : Byte)
  | memory (m : MemOperand)
  | indirect (w : Word)
  | relative (off : Byte)
deriving DecidableEq, Repr

/-- The mode of an operand. -/
def Operand.mode : Operand → Mode
  | .implied => .implied
  | .accumulator => .accumulator
  | .immediate _ => .immediate
  | .memory m => m.mode
  | .indirect _ => .indirect
  | .relative _ => .relative

/-- The access classes of an operation with a memory operand (40_addressing.md R112). -/
inductive AccessClass where
  | read
  | write
  | readModifyWrite
deriving DecidableEq, Repr

/-- The access class the operation has on a memory operand (40_addressing.md R112); the operations without one make their
accesses by their own rules. -/
def Operation.accessClass : Operation → Option AccessClass
  | .lda | .ldx | .ldy | .adc | .sbc | .and | .ora | .eor | .bit | .cmp | .cpx | .cpy => some .read
  | .nop | .lax | .las => some .read
  | .sta | .stx | .sty | .sax | .ahx | .shx | .shy | .tas => some .write
  | .asl | .lsr | .rol | .ror | .inc | .dec => some .readModifyWrite
  | .slo | .rla | .sre | .rra | .dcp | .isc => some .readModifyWrite
  | .bcc | .bcs | .beq | .bmi | .bne | .bpl | .bvc | .bvs => none
  | .brk | .jmp | .jsr | .rti | .rts | .jam => none
  | .clc | .cld | .cli | .clv | .sec | .sed | .sei => none
  | .dex | .dey | .inx | .iny | .tax | .tay | .tsx | .txa | .txs | .tya => none
  | .pha | .php | .pla | .plp => none
  | .axs | .anc | .alr | .arr | .xaa => none

/-- The instructions: one constructor per opcode byte of 30_encoding.md R95, with its operand. Where a mnemonic and mode
have several opcode bytes, all but the documented one carry the byte in their name. The constructors with an operand stand
first, in opcode order, then those without one, in opcode order. -/
inductive Instr where
  | oraIzx (ad : Byte)
  | sloIzx (ad : Byte)
  | nopZp04 (ad : Byte)
  | oraZp (ad : Byte)
  | aslZp (ad : Byte)
  | sloZp (ad : Byte)
  | oraImm (v : Byte)
  | anc0B (v : Byte)
  | nopAbs (w : Word)
  | oraAbs (w : Word)
  | aslAbs (w : Word)
  | sloAbs (w : Word)
  | bpl (off : Byte)
  | oraIzy (ad : Byte)
  | sloIzy (ad : Byte)
  | nopZpx14 (ad : Byte)
  | oraZpx (ad : Byte)
  | aslZpx (ad : Byte)
  | sloZpx (ad : Byte)
  | oraAby (w : Word)
  | sloAby (w : Word)
  | nopAbx1C (w : Word)
  | oraAbx (w : Word)
  | aslAbx (w : Word)
  | sloAbx (w : Word)
  | jsr (w : Word)
  | andIzx (ad : Byte)
  | rlaIzx (ad : Byte)
  | bitZp (ad : Byte)
  | andZp (ad : Byte)
  | rolZp (ad : Byte)
  | rlaZp (ad : Byte)
  | andImm (v : Byte)
  | anc2B (v : Byte)
  | bitAbs (w : Word)
  | andAbs (w : Word)
  | rolAbs (w : Word)
  | rlaAbs (w : Word)
  | bmi (off : Byte)
  | andIzy (ad : Byte)
  | rlaIzy (ad : Byte)
  | nopZpx34 (ad : Byte)
  | andZpx (ad : Byte)
  | rolZpx (ad : Byte)
  | rlaZpx (ad : Byte)
  | andAby (w : Word)
  | rlaAby (w : Word)
  | nopAbx3C (w : Word)
  | andAbx (w : Word)
  | rolAbx (w : Word)
  | rlaAbx (w : Word)
  | eorIzx (ad : Byte)
  | sreIzx (ad : Byte)
  | nopZp44 (ad : Byte)
  | eorZp (ad : Byte)
  | lsrZp (ad : Byte)
  | sreZp (ad : Byte)
  | eorImm (v : Byte)
  | alr (v : Byte)
  | jmpAbs (w : Word)
  | eorAbs (w : Word)
  | lsrAbs (w : Word)
  | sreAbs (w : Word)
  | bvc (off : Byte)
  | eorIzy (ad : Byte)
  | sreIzy (ad : Byte)
  | nopZpx54 (ad : Byte)
  | eorZpx (ad : Byte)
  | lsrZpx (ad : Byte)
  | sreZpx (ad : Byte)
  | eorAby (w : Word)
  | sreAby (w : Word)
  | nopAbx5C (w : Word)
  | eorAbx (w : Word)
  | lsrAbx (w : Word)
  | sreAbx (w : Word)
  | adcIzx (ad : Byte)
  | rraIzx (ad : Byte)
  | nopZp64 (ad : Byte)
  | adcZp (ad : Byte)
  | rorZp (ad : Byte)
  | rraZp (ad : Byte)
  | adcImm (v : Byte)
  | arr (v : Byte)
  | jmpInd (w : Word)
  | adcAbs (w : Word)
  | rorAbs (w : Word)
  | rraAbs (w : Word)
  | bvs (off : Byte)
  | adcIzy (ad : Byte)
  | rraIzy (ad : Byte)
  | nopZpx74 (ad : Byte)
  | adcZpx (ad : Byte)
  | rorZpx (ad : Byte)
  | rraZpx (ad : Byte)
  | adcAby (w : Word)
  | rraAby (w : Word)
  | nopAbx7C (w : Word)
  | adcAbx (w : Word)
  | rorAbx (w : Word)
  | rraAbx (w : Word)
  | nopImm80 (v : Byte)
  | staIzx (ad : Byte)
  | nopImm82 (v : Byte)
  | saxIzx (ad : Byte)
  | styZp (ad : Byte)
  | staZp (ad : Byte)
  | stxZp (ad : Byte)
  | saxZp (ad : Byte)
  | nopImm89 (v : Byte)
  | xaa (v : Byte)
  | styAbs (w : Word)
  | staAbs (w : Word)
  | stxAbs (w : Word)
  | saxAbs (w : Word)
  | bcc (off : Byte)
  | staIzy (ad : Byte)
  | ahxIzy (ad : Byte)
  | styZpx (ad : Byte)
  | staZpx (ad : Byte)
  | stxZpy (ad : Byte)
  | saxZpy (ad : Byte)
  | staAby (w : Word)
  | tas (w : Word)
  | shy (w : Word)
  | staAbx (w : Word)
  | shx (w : Word)
  | ahxAby (w : Word)
  | ldyImm (v : Byte)
  | ldaIzx (ad : Byte)
  | ldxImm (v : Byte)
  | laxIzx (ad : Byte)
  | ldyZp (ad : Byte)
  | ldaZp (ad : Byte)
  | ldxZp (ad : Byte)
  | laxZp (ad : Byte)
  | ldaImm (v : Byte)
  | laxImm (v : Byte)
  | ldyAbs (w : Word)
  | ldaAbs (w : Word)
  | ldxAbs (w : Word)
  | laxAbs (w : Word)
  | bcs (off : Byte)
  | ldaIzy (ad : Byte)
  | laxIzy (ad : Byte)
  | ldyZpx (ad : Byte)
  | ldaZpx (ad : Byte)
  | ldxZpy (ad : Byte)
  | laxZpy (ad : Byte)
  | ldaAby (w : Word)
  | las (w : Word)
  | ldyAbx (w : Word)
  | ldaAbx (w : Word)
  | ldxAby (w : Word)
  | laxAby (w : Word)
  | cpyImm (v : Byte)
  | cmpIzx (ad : Byte)
  | nopImmC2 (v : Byte)
  | dcpIzx (ad : Byte)
  | cpyZp (ad : Byte)
  | cmpZp (ad : Byte)
  | decZp (ad : Byte)
  | dcpZp (ad : Byte)
  | cmpImm (v : Byte)
  | axs (v : Byte)
  | cpyAbs (w : Word)
  | cmpAbs (w : Word)
  | decAbs (w : Word)
  | dcpAbs (w : Word)
  | bne (off : Byte)
  | cmpIzy (ad : Byte)
  | dcpIzy (ad : Byte)
  | nopZpxD4 (ad : Byte)
  | cmpZpx (ad : Byte)
  | decZpx (ad : Byte)
  | dcpZpx (ad : Byte)
  | cmpAby (w : Word)
  | dcpAby (w : Word)
  | nopAbxDC (w : Word)
  | cmpAbx (w : Word)
  | decAbx (w : Word)
  | dcpAbx (w : Word)
  | cpxImm (v : Byte)
  | sbcIzx (ad : Byte)
  | nopImmE2 (v : Byte)
  | iscIzx (ad : Byte)
  | cpxZp (ad : Byte)
  | sbcZp (ad : Byte)
  | incZp (ad : Byte)
  | iscZp (ad : Byte)
  | sbcImm (v : Byte)
  | sbcImmEB (v : Byte)
  | cpxAbs (w : Word)
  | sbcAbs (w : Word)
  | incAbs (w : Word)
  | iscAbs (w : Word)
  | beq (off : Byte)
  | sbcIzy (ad : Byte)
  | iscIzy (ad : Byte)
  | nopZpxF4 (ad : Byte)
  | sbcZpx (ad : Byte)
  | incZpx (ad : Byte)
  | iscZpx (ad : Byte)
  | sbcAby (w : Word)
  | iscAby (w : Word)
  | nopAbxFC (w : Word)
  | sbcAbx (w : Word)
  | incAbx (w : Word)
  | iscAbx (w : Word)
  | brk
  | jam02
  | php
  | aslAcc
  | jam12
  | clc
  | nopImp1A
  | jam22
  | plp
  | rolAcc
  | jam32
  | sec
  | nopImp3A
  | rti
  | jam42
  | pha
  | lsrAcc
  | jam52
  | cli
  | nopImp5A
  | rts
  | jam62
  | pla
  | rorAcc
  | jam72
  | sei
  | nopImp7A
  | dey
  | txa
  | jam92
  | tya
  | txs
  | tay
  | tax
  | jamB2
  | clv
  | tsx
  | iny
  | dex
  | jamD2
  | cld
  | nopImpDA
  | inx
  | nopImp
  | jamF2
  | sed
  | nopImpFA
deriving DecidableEq, Repr

/-- The operation of each instruction (30_encoding.md R95). -/
def Instr.operation : Instr → Operation
  | .brk => .brk
  | .oraIzx _ => .ora
  | .jam02 => .jam
  | .sloIzx _ => .slo
  | .nopZp04 _ => .nop
  | .oraZp _ => .ora
  | .aslZp _ => .asl
  | .sloZp _ => .slo
  | .php => .php
  | .oraImm _ => .ora
  | .aslAcc => .asl
  | .anc0B _ => .anc
  | .nopAbs _ => .nop
  | .oraAbs _ => .ora
  | .aslAbs _ => .asl
  | .sloAbs _ => .slo
  | .bpl _ => .bpl
  | .oraIzy _ => .ora
  | .jam12 => .jam
  | .sloIzy _ => .slo
  | .nopZpx14 _ => .nop
  | .oraZpx _ => .ora
  | .aslZpx _ => .asl
  | .sloZpx _ => .slo
  | .clc => .clc
  | .oraAby _ => .ora
  | .nopImp1A => .nop
  | .sloAby _ => .slo
  | .nopAbx1C _ => .nop
  | .oraAbx _ => .ora
  | .aslAbx _ => .asl
  | .sloAbx _ => .slo
  | .jsr _ => .jsr
  | .andIzx _ => .and
  | .jam22 => .jam
  | .rlaIzx _ => .rla
  | .bitZp _ => .bit
  | .andZp _ => .and
  | .rolZp _ => .rol
  | .rlaZp _ => .rla
  | .plp => .plp
  | .andImm _ => .and
  | .rolAcc => .rol
  | .anc2B _ => .anc
  | .bitAbs _ => .bit
  | .andAbs _ => .and
  | .rolAbs _ => .rol
  | .rlaAbs _ => .rla
  | .bmi _ => .bmi
  | .andIzy _ => .and
  | .jam32 => .jam
  | .rlaIzy _ => .rla
  | .nopZpx34 _ => .nop
  | .andZpx _ => .and
  | .rolZpx _ => .rol
  | .rlaZpx _ => .rla
  | .sec => .sec
  | .andAby _ => .and
  | .nopImp3A => .nop
  | .rlaAby _ => .rla
  | .nopAbx3C _ => .nop
  | .andAbx _ => .and
  | .rolAbx _ => .rol
  | .rlaAbx _ => .rla
  | .rti => .rti
  | .eorIzx _ => .eor
  | .jam42 => .jam
  | .sreIzx _ => .sre
  | .nopZp44 _ => .nop
  | .eorZp _ => .eor
  | .lsrZp _ => .lsr
  | .sreZp _ => .sre
  | .pha => .pha
  | .eorImm _ => .eor
  | .lsrAcc => .lsr
  | .alr _ => .alr
  | .jmpAbs _ => .jmp
  | .eorAbs _ => .eor
  | .lsrAbs _ => .lsr
  | .sreAbs _ => .sre
  | .bvc _ => .bvc
  | .eorIzy _ => .eor
  | .jam52 => .jam
  | .sreIzy _ => .sre
  | .nopZpx54 _ => .nop
  | .eorZpx _ => .eor
  | .lsrZpx _ => .lsr
  | .sreZpx _ => .sre
  | .cli => .cli
  | .eorAby _ => .eor
  | .nopImp5A => .nop
  | .sreAby _ => .sre
  | .nopAbx5C _ => .nop
  | .eorAbx _ => .eor
  | .lsrAbx _ => .lsr
  | .sreAbx _ => .sre
  | .rts => .rts
  | .adcIzx _ => .adc
  | .jam62 => .jam
  | .rraIzx _ => .rra
  | .nopZp64 _ => .nop
  | .adcZp _ => .adc
  | .rorZp _ => .ror
  | .rraZp _ => .rra
  | .pla => .pla
  | .adcImm _ => .adc
  | .rorAcc => .ror
  | .arr _ => .arr
  | .jmpInd _ => .jmp
  | .adcAbs _ => .adc
  | .rorAbs _ => .ror
  | .rraAbs _ => .rra
  | .bvs _ => .bvs
  | .adcIzy _ => .adc
  | .jam72 => .jam
  | .rraIzy _ => .rra
  | .nopZpx74 _ => .nop
  | .adcZpx _ => .adc
  | .rorZpx _ => .ror
  | .rraZpx _ => .rra
  | .sei => .sei
  | .adcAby _ => .adc
  | .nopImp7A => .nop
  | .rraAby _ => .rra
  | .nopAbx7C _ => .nop
  | .adcAbx _ => .adc
  | .rorAbx _ => .ror
  | .rraAbx _ => .rra
  | .nopImm80 _ => .nop
  | .staIzx _ => .sta
  | .nopImm82 _ => .nop
  | .saxIzx _ => .sax
  | .styZp _ => .sty
  | .staZp _ => .sta
  | .stxZp _ => .stx
  | .saxZp _ => .sax
  | .dey => .dey
  | .nopImm89 _ => .nop
  | .txa => .txa
  | .xaa _ => .xaa
  | .styAbs _ => .sty
  | .staAbs _ => .sta
  | .stxAbs _ => .stx
  | .saxAbs _ => .sax
  | .bcc _ => .bcc
  | .staIzy _ => .sta
  | .jam92 => .jam
  | .ahxIzy _ => .ahx
  | .styZpx _ => .sty
  | .staZpx _ => .sta
  | .stxZpy _ => .stx
  | .saxZpy _ => .sax
  | .tya => .tya
  | .staAby _ => .sta
  | .txs => .txs
  | .tas _ => .tas
  | .shy _ => .shy
  | .staAbx _ => .sta
  | .shx _ => .shx
  | .ahxAby _ => .ahx
  | .ldyImm _ => .ldy
  | .ldaIzx _ => .lda
  | .ldxImm _ => .ldx
  | .laxIzx _ => .lax
  | .ldyZp _ => .ldy
  | .ldaZp _ => .lda
  | .ldxZp _ => .ldx
  | .laxZp _ => .lax
  | .tay => .tay
  | .ldaImm _ => .lda
  | .tax => .tax
  | .laxImm _ => .lax
  | .ldyAbs _ => .ldy
  | .ldaAbs _ => .lda
  | .ldxAbs _ => .ldx
  | .laxAbs _ => .lax
  | .bcs _ => .bcs
  | .ldaIzy _ => .lda
  | .jamB2 => .jam
  | .laxIzy _ => .lax
  | .ldyZpx _ => .ldy
  | .ldaZpx _ => .lda
  | .ldxZpy _ => .ldx
  | .laxZpy _ => .lax
  | .clv => .clv
  | .ldaAby _ => .lda
  | .tsx => .tsx
  | .las _ => .las
  | .ldyAbx _ => .ldy
  | .ldaAbx _ => .lda
  | .ldxAby _ => .ldx
  | .laxAby _ => .lax
  | .cpyImm _ => .cpy
  | .cmpIzx _ => .cmp
  | .nopImmC2 _ => .nop
  | .dcpIzx _ => .dcp
  | .cpyZp _ => .cpy
  | .cmpZp _ => .cmp
  | .decZp _ => .dec
  | .dcpZp _ => .dcp
  | .iny => .iny
  | .cmpImm _ => .cmp
  | .dex => .dex
  | .axs _ => .axs
  | .cpyAbs _ => .cpy
  | .cmpAbs _ => .cmp
  | .decAbs _ => .dec
  | .dcpAbs _ => .dcp
  | .bne _ => .bne
  | .cmpIzy _ => .cmp
  | .jamD2 => .jam
  | .dcpIzy _ => .dcp
  | .nopZpxD4 _ => .nop
  | .cmpZpx _ => .cmp
  | .decZpx _ => .dec
  | .dcpZpx _ => .dcp
  | .cld => .cld
  | .cmpAby _ => .cmp
  | .nopImpDA => .nop
  | .dcpAby _ => .dcp
  | .nopAbxDC _ => .nop
  | .cmpAbx _ => .cmp
  | .decAbx _ => .dec
  | .dcpAbx _ => .dcp
  | .cpxImm _ => .cpx
  | .sbcIzx _ => .sbc
  | .nopImmE2 _ => .nop
  | .iscIzx _ => .isc
  | .cpxZp _ => .cpx
  | .sbcZp _ => .sbc
  | .incZp _ => .inc
  | .iscZp _ => .isc
  | .inx => .inx
  | .sbcImm _ => .sbc
  | .nopImp => .nop
  | .sbcImmEB _ => .sbc
  | .cpxAbs _ => .cpx
  | .sbcAbs _ => .sbc
  | .incAbs _ => .inc
  | .iscAbs _ => .isc
  | .beq _ => .beq
  | .sbcIzy _ => .sbc
  | .jamF2 => .jam
  | .iscIzy _ => .isc
  | .nopZpxF4 _ => .nop
  | .sbcZpx _ => .sbc
  | .incZpx _ => .inc
  | .iscZpx _ => .isc
  | .sed => .sed
  | .sbcAby _ => .sbc
  | .nopImpFA => .nop
  | .iscAby _ => .isc
  | .nopAbxFC _ => .nop
  | .sbcAbx _ => .sbc
  | .incAbx _ => .inc
  | .iscAbx _ => .isc

/-- The operand of each instruction (30_encoding.md R92, R95). -/
def Instr.operand : Instr → Operand
  | .brk => .implied
  | .oraIzx ad => .memory (.izx ad)
  | .jam02 => .implied
  | .sloIzx ad => .memory (.izx ad)
  | .nopZp04 ad => .memory (.zp ad)
  | .oraZp ad => .memory (.zp ad)
  | .aslZp ad => .memory (.zp ad)
  | .sloZp ad => .memory (.zp ad)
  | .php => .implied
  | .oraImm v => .immediate v
  | .aslAcc => .accumulator
  | .anc0B v => .immediate v
  | .nopAbs w => .memory (.abs w)
  | .oraAbs w => .memory (.abs w)
  | .aslAbs w => .memory (.abs w)
  | .sloAbs w => .memory (.abs w)
  | .bpl off => .relative off
  | .oraIzy ad => .memory (.izy ad)
  | .jam12 => .implied
  | .sloIzy ad => .memory (.izy ad)
  | .nopZpx14 ad => .memory (.zpx ad)
  | .oraZpx ad => .memory (.zpx ad)
  | .aslZpx ad => .memory (.zpx ad)
  | .sloZpx ad => .memory (.zpx ad)
  | .clc => .implied
  | .oraAby w => .memory (.aby w)
  | .nopImp1A => .implied
  | .sloAby w => .memory (.aby w)
  | .nopAbx1C w => .memory (.abx w)
  | .oraAbx w => .memory (.abx w)
  | .aslAbx w => .memory (.abx w)
  | .sloAbx w => .memory (.abx w)
  | .jsr w => .memory (.abs w)
  | .andIzx ad => .memory (.izx ad)
  | .jam22 => .implied
  | .rlaIzx ad => .memory (.izx ad)
  | .bitZp ad => .memory (.zp ad)
  | .andZp ad => .memory (.zp ad)
  | .rolZp ad => .memory (.zp ad)
  | .rlaZp ad => .memory (.zp ad)
  | .plp => .implied
  | .andImm v => .immediate v
  | .rolAcc => .accumulator
  | .anc2B v => .immediate v
  | .bitAbs w => .memory (.abs w)
  | .andAbs w => .memory (.abs w)
  | .rolAbs w => .memory (.abs w)
  | .rlaAbs w => .memory (.abs w)
  | .bmi off => .relative off
  | .andIzy ad => .memory (.izy ad)
  | .jam32 => .implied
  | .rlaIzy ad => .memory (.izy ad)
  | .nopZpx34 ad => .memory (.zpx ad)
  | .andZpx ad => .memory (.zpx ad)
  | .rolZpx ad => .memory (.zpx ad)
  | .rlaZpx ad => .memory (.zpx ad)
  | .sec => .implied
  | .andAby w => .memory (.aby w)
  | .nopImp3A => .implied
  | .rlaAby w => .memory (.aby w)
  | .nopAbx3C w => .memory (.abx w)
  | .andAbx w => .memory (.abx w)
  | .rolAbx w => .memory (.abx w)
  | .rlaAbx w => .memory (.abx w)
  | .rti => .implied
  | .eorIzx ad => .memory (.izx ad)
  | .jam42 => .implied
  | .sreIzx ad => .memory (.izx ad)
  | .nopZp44 ad => .memory (.zp ad)
  | .eorZp ad => .memory (.zp ad)
  | .lsrZp ad => .memory (.zp ad)
  | .sreZp ad => .memory (.zp ad)
  | .pha => .implied
  | .eorImm v => .immediate v
  | .lsrAcc => .accumulator
  | .alr v => .immediate v
  | .jmpAbs w => .memory (.abs w)
  | .eorAbs w => .memory (.abs w)
  | .lsrAbs w => .memory (.abs w)
  | .sreAbs w => .memory (.abs w)
  | .bvc off => .relative off
  | .eorIzy ad => .memory (.izy ad)
  | .jam52 => .implied
  | .sreIzy ad => .memory (.izy ad)
  | .nopZpx54 ad => .memory (.zpx ad)
  | .eorZpx ad => .memory (.zpx ad)
  | .lsrZpx ad => .memory (.zpx ad)
  | .sreZpx ad => .memory (.zpx ad)
  | .cli => .implied
  | .eorAby w => .memory (.aby w)
  | .nopImp5A => .implied
  | .sreAby w => .memory (.aby w)
  | .nopAbx5C w => .memory (.abx w)
  | .eorAbx w => .memory (.abx w)
  | .lsrAbx w => .memory (.abx w)
  | .sreAbx w => .memory (.abx w)
  | .rts => .implied
  | .adcIzx ad => .memory (.izx ad)
  | .jam62 => .implied
  | .rraIzx ad => .memory (.izx ad)
  | .nopZp64 ad => .memory (.zp ad)
  | .adcZp ad => .memory (.zp ad)
  | .rorZp ad => .memory (.zp ad)
  | .rraZp ad => .memory (.zp ad)
  | .pla => .implied
  | .adcImm v => .immediate v
  | .rorAcc => .accumulator
  | .arr v => .immediate v
  | .jmpInd w => .indirect w
  | .adcAbs w => .memory (.abs w)
  | .rorAbs w => .memory (.abs w)
  | .rraAbs w => .memory (.abs w)
  | .bvs off => .relative off
  | .adcIzy ad => .memory (.izy ad)
  | .jam72 => .implied
  | .rraIzy ad => .memory (.izy ad)
  | .nopZpx74 ad => .memory (.zpx ad)
  | .adcZpx ad => .memory (.zpx ad)
  | .rorZpx ad => .memory (.zpx ad)
  | .rraZpx ad => .memory (.zpx ad)
  | .sei => .implied
  | .adcAby w => .memory (.aby w)
  | .nopImp7A => .implied
  | .rraAby w => .memory (.aby w)
  | .nopAbx7C w => .memory (.abx w)
  | .adcAbx w => .memory (.abx w)
  | .rorAbx w => .memory (.abx w)
  | .rraAbx w => .memory (.abx w)
  | .nopImm80 v => .immediate v
  | .staIzx ad => .memory (.izx ad)
  | .nopImm82 v => .immediate v
  | .saxIzx ad => .memory (.izx ad)
  | .styZp ad => .memory (.zp ad)
  | .staZp ad => .memory (.zp ad)
  | .stxZp ad => .memory (.zp ad)
  | .saxZp ad => .memory (.zp ad)
  | .dey => .implied
  | .nopImm89 v => .immediate v
  | .txa => .implied
  | .xaa v => .immediate v
  | .styAbs w => .memory (.abs w)
  | .staAbs w => .memory (.abs w)
  | .stxAbs w => .memory (.abs w)
  | .saxAbs w => .memory (.abs w)
  | .bcc off => .relative off
  | .staIzy ad => .memory (.izy ad)
  | .jam92 => .implied
  | .ahxIzy ad => .memory (.izy ad)
  | .styZpx ad => .memory (.zpx ad)
  | .staZpx ad => .memory (.zpx ad)
  | .stxZpy ad => .memory (.zpy ad)
  | .saxZpy ad => .memory (.zpy ad)
  | .tya => .implied
  | .staAby w => .memory (.aby w)
  | .txs => .implied
  | .tas w => .memory (.aby w)
  | .shy w => .memory (.abx w)
  | .staAbx w => .memory (.abx w)
  | .shx w => .memory (.aby w)
  | .ahxAby w => .memory (.aby w)
  | .ldyImm v => .immediate v
  | .ldaIzx ad => .memory (.izx ad)
  | .ldxImm v => .immediate v
  | .laxIzx ad => .memory (.izx ad)
  | .ldyZp ad => .memory (.zp ad)
  | .ldaZp ad => .memory (.zp ad)
  | .ldxZp ad => .memory (.zp ad)
  | .laxZp ad => .memory (.zp ad)
  | .tay => .implied
  | .ldaImm v => .immediate v
  | .tax => .implied
  | .laxImm v => .immediate v
  | .ldyAbs w => .memory (.abs w)
  | .ldaAbs w => .memory (.abs w)
  | .ldxAbs w => .memory (.abs w)
  | .laxAbs w => .memory (.abs w)
  | .bcs off => .relative off
  | .ldaIzy ad => .memory (.izy ad)
  | .jamB2 => .implied
  | .laxIzy ad => .memory (.izy ad)
  | .ldyZpx ad => .memory (.zpx ad)
  | .ldaZpx ad => .memory (.zpx ad)
  | .ldxZpy ad => .memory (.zpy ad)
  | .laxZpy ad => .memory (.zpy ad)
  | .clv => .implied
  | .ldaAby w => .memory (.aby w)
  | .tsx => .implied
  | .las w => .memory (.aby w)
  | .ldyAbx w => .memory (.abx w)
  | .ldaAbx w => .memory (.abx w)
  | .ldxAby w => .memory (.aby w)
  | .laxAby w => .memory (.aby w)
  | .cpyImm v => .immediate v
  | .cmpIzx ad => .memory (.izx ad)
  | .nopImmC2 v => .immediate v
  | .dcpIzx ad => .memory (.izx ad)
  | .cpyZp ad => .memory (.zp ad)
  | .cmpZp ad => .memory (.zp ad)
  | .decZp ad => .memory (.zp ad)
  | .dcpZp ad => .memory (.zp ad)
  | .iny => .implied
  | .cmpImm v => .immediate v
  | .dex => .implied
  | .axs v => .immediate v
  | .cpyAbs w => .memory (.abs w)
  | .cmpAbs w => .memory (.abs w)
  | .decAbs w => .memory (.abs w)
  | .dcpAbs w => .memory (.abs w)
  | .bne off => .relative off
  | .cmpIzy ad => .memory (.izy ad)
  | .jamD2 => .implied
  | .dcpIzy ad => .memory (.izy ad)
  | .nopZpxD4 ad => .memory (.zpx ad)
  | .cmpZpx ad => .memory (.zpx ad)
  | .decZpx ad => .memory (.zpx ad)
  | .dcpZpx ad => .memory (.zpx ad)
  | .cld => .implied
  | .cmpAby w => .memory (.aby w)
  | .nopImpDA => .implied
  | .dcpAby w => .memory (.aby w)
  | .nopAbxDC w => .memory (.abx w)
  | .cmpAbx w => .memory (.abx w)
  | .decAbx w => .memory (.abx w)
  | .dcpAbx w => .memory (.abx w)
  | .cpxImm v => .immediate v
  | .sbcIzx ad => .memory (.izx ad)
  | .nopImmE2 v => .immediate v
  | .iscIzx ad => .memory (.izx ad)
  | .cpxZp ad => .memory (.zp ad)
  | .sbcZp ad => .memory (.zp ad)
  | .incZp ad => .memory (.zp ad)
  | .iscZp ad => .memory (.zp ad)
  | .inx => .implied
  | .sbcImm v => .immediate v
  | .nopImp => .implied
  | .sbcImmEB v => .immediate v
  | .cpxAbs w => .memory (.abs w)
  | .sbcAbs w => .memory (.abs w)
  | .incAbs w => .memory (.abs w)
  | .iscAbs w => .memory (.abs w)
  | .beq off => .relative off
  | .sbcIzy ad => .memory (.izy ad)
  | .jamF2 => .implied
  | .iscIzy ad => .memory (.izy ad)
  | .nopZpxF4 ad => .memory (.zpx ad)
  | .sbcZpx ad => .memory (.zpx ad)
  | .incZpx ad => .memory (.zpx ad)
  | .iscZpx ad => .memory (.zpx ad)
  | .sed => .implied
  | .sbcAby w => .memory (.aby w)
  | .nopImpFA => .implied
  | .iscAby w => .memory (.aby w)
  | .nopAbxFC w => .memory (.abx w)
  | .sbcAbx w => .memory (.abx w)
  | .incAbx w => .memory (.abx w)
  | .iscAbx w => .memory (.abx w)

/-- The length in bytes (30_encoding.md R91): 1 and the operand bytes of the mode. -/
def Instr.length (i : Instr) : Nat := 1 + i.operand.mode.operandBytes

end Sys2Proof
end

