-- ==== Sys2Proof/Decode.lean ====
section
/-! DEFINITION. The opcode decoder and the encoder (spec 30_encoding.md R90 to R99): byte-order helpers, the opcode map of
R95 as descriptors, decoding total on every byte, and encoding. -/

namespace Sys2Proof

/-- `hi(w)` of 00_scope.md R16. -/
def hiByte (w : Word) : Byte := w.extractLsb' 8 8

/-- `lo(w)` of 00_scope.md R16. -/
def loByte (w : Word) : Byte := w.extractLsb' 0 8

/-- `h:l` of 00_scope.md R16. -/
def wordOf (h l : Byte) : Word := h ++ l

/-- `zext_16(v)` of 00_scope.md R16. -/
def zext16 (v : Byte) : Word := v.zeroExtend 16

/-- `sext_16(v)` of 00_scope.md R16. -/
def sext16 (v : Byte) : Word := v.signExtend 16

/-- The Instruction Descriptor `{operation, mode, base_cycles, rmw}` with the boolean "extra-cycle-on-cross" (R94). JAM has no
base cycle count: it never completes (R95). -/
structure Descriptor where
  operation : Operation
  mode : Mode
  baseCycles : Option Nat
  extraOnCross : Bool
  rmw : Bool
deriving DecidableEq, Repr

/-- R94: `rmw` is 1 exactly for ASL, LSR, ROL, ROR, INC, DEC, SLO, RLA, SRE, RRA, DCP and ISC in a memory mode. -/
def rmwFlag (op : Operation) (mode : Mode) : Bool :=
  op.accessClass == some .readModifyWrite && mode != .accumulator

/-- A cell of the opcode map of R95 without the `+` mark. -/
def cell (op : Operation) (mode : Mode) (base : Nat) : Descriptor :=
  { operation := op, mode := mode, baseCycles := some base, extraOnCross := false, rmw := rmwFlag op mode }

/-- A cell of the opcode map of R95 with the `+` mark (R94, 70_reset_and_hazards.md R457). -/
def cellPlus (op : Operation) (mode : Mode) (base : Nat) : Descriptor :=
  { cell op mode base with extraOnCross := true }

/-- A cell of the opcode map of R95 with the `-` mark: JAM. -/
def cellJam : Descriptor :=
  { operation := .jam, mode := .implied, baseCycles := none, extraOnCross := false, rmw := false }

/-- Row 0x of the opcode map (R95). -/
def opcodeRow0 : Vector Descriptor 16 :=
  #v[cell .brk .implied 7, cell .ora .indexedIndirectX 6,
     cellJam, cell .slo .indexedIndirectX 8,
     cell .nop .zeropage 3, cell .ora .zeropage 3,
     cell .asl .zeropage 5, cell .slo .zeropage 5,
     cell .php .implied 3, cell .ora .immediate 2,
     cell .asl .accumulator 2, cell .anc .immediate 2,
     cell .nop .absolute 4, cell .ora .absolute 4,
     cell .asl .absolute 6, cell .slo .absolute 6]

/-- Row 1x of the opcode map (R95). -/
def opcodeRow1 : Vector Descriptor 16 :=
  #v[cell .bpl .relative 2, cellPlus .ora .indirectIndexedY 5,
     cellJam, cell .slo .indirectIndexedY 8,
     cell .nop .zeropageIndexedX 4, cell .ora .zeropageIndexedX 4,
     cell .asl .zeropageIndexedX 6, cell .slo .zeropageIndexedX 6,
     cell .clc .implied 2, cellPlus .ora .absoluteIndexedY 4,
     cell .nop .implied 2, cell .slo .absoluteIndexedY 7,
     cellPlus .nop .absoluteIndexedX 4, cellPlus .ora .absoluteIndexedX 4,
     cell .asl .absoluteIndexedX 7, cell .slo .absoluteIndexedX 7]

/-- Row 2x of the opcode map (R95). -/
def opcodeRow2 : Vector Descriptor 16 :=
  #v[cell .jsr .absolute 6, cell .and .indexedIndirectX 6,
     cellJam, cell .rla .indexedIndirectX 8,
     cell .bit .zeropage 3, cell .and .zeropage 3,
     cell .rol .zeropage 5, cell .rla .zeropage 5,
     cell .plp .implied 4, cell .and .immediate 2,
     cell .rol .accumulator 2, cell .anc .immediate 2,
     cell .bit .absolute 4, cell .and .absolute 4,
     cell .rol .absolute 6, cell .rla .absolute 6]

/-- Row 3x of the opcode map (R95). -/
def opcodeRow3 : Vector Descriptor 16 :=
  #v[cell .bmi .relative 2, cellPlus .and .indirectIndexedY 5,
     cellJam, cell .rla .indirectIndexedY 8,
     cell .nop .zeropageIndexedX 4, cell .and .zeropageIndexedX 4,
     cell .rol .zeropageIndexedX 6, cell .rla .zeropageIndexedX 6,
     cell .sec .implied 2, cellPlus .and .absoluteIndexedY 4,
     cell .nop .implied 2, cell .rla .absoluteIndexedY 7,
     cellPlus .nop .absoluteIndexedX 4, cellPlus .and .absoluteIndexedX 4,
     cell .rol .absoluteIndexedX 7, cell .rla .absoluteIndexedX 7]

/-- Row 4x of the opcode map (R95). -/
def opcodeRow4 : Vector Descriptor 16 :=
  #v[cell .rti .implied 6, cell .eor .indexedIndirectX 6,
     cellJam, cell .sre .indexedIndirectX 8,
     cell .nop .zeropage 3, cell .eor .zeropage 3,
     cell .lsr .zeropage 5, cell .sre .zeropage 5,
     cell .pha .implied 3, cell .eor .immediate 2,
     cell .lsr .accumulator 2, cell .alr .immediate 2,
     cell .jmp .absolute 3, cell .eor .absolute 4,
     cell .lsr .absolute 6, cell .sre .absolute 6]

/-- Row 5x of the opcode map (R95). -/
def opcodeRow5 : Vector Descriptor 16 :=
  #v[cell .bvc .relative 2, cellPlus .eor .indirectIndexedY 5,
     cellJam, cell .sre .indirectIndexedY 8,
     cell .nop .zeropageIndexedX 4, cell .eor .zeropageIndexedX 4,
     cell .lsr .zeropageIndexedX 6, cell .sre .zeropageIndexedX 6,
     cell .cli .implied 2, cellPlus .eor .absoluteIndexedY 4,
     cell .nop .implied 2, cell .sre .absoluteIndexedY 7,
     cellPlus .nop .absoluteIndexedX 4, cellPlus .eor .absoluteIndexedX 4,
     cell .lsr .absoluteIndexedX 7, cell .sre .absoluteIndexedX 7]

/-- Row 6x of the opcode map (R95). -/
def opcodeRow6 : Vector Descriptor 16 :=
  #v[cell .rts .implied 6, cell .adc .indexedIndirectX 6,
     cellJam, cell .rra .indexedIndirectX 8,
     cell .nop .zeropage 3, cell .adc .zeropage 3,
     cell .ror .zeropage 5, cell .rra .zeropage 5,
     cell .pla .implied 4, cell .adc .immediate 2,
     cell .ror .accumulator 2, cell .arr .immediate 2,
     cell .jmp .indirect 5, cell .adc .absolute 4,
     cell .ror .absolute 6, cell .rra .absolute 6]

/-- Row 7x of the opcode map (R95). -/
def opcodeRow7 : Vector Descriptor 16 :=
  #v[cell .bvs .relative 2, cellPlus .adc .indirectIndexedY 5,
     cellJam, cell .rra .indirectIndexedY 8,
     cell .nop .zeropageIndexedX 4, cell .adc .zeropageIndexedX 4,
     cell .ror .zeropageIndexedX 6, cell .rra .zeropageIndexedX 6,
     cell .sei .implied 2, cellPlus .adc .absoluteIndexedY 4,
     cell .nop .implied 2, cell .rra .absoluteIndexedY 7,
     cellPlus .nop .absoluteIndexedX 4, cellPlus .adc .absoluteIndexedX 4,
     cell .ror .absoluteIndexedX 7, cell .rra .absoluteIndexedX 7]

/-- Row 8x of the opcode map (R95). -/
def opcodeRow8 : Vector Descriptor 16 :=
  #v[cell .nop .immediate 2, cell .sta .indexedIndirectX 6,
     cell .nop .immediate 2, cell .sax .indexedIndirectX 6,
     cell .sty .zeropage 3, cell .sta .zeropage 3,
     cell .stx .zeropage 3, cell .sax .zeropage 3,
     cell .dey .implied 2, cell .nop .immediate 2,
     cell .txa .implied 2, cell .xaa .immediate 2,
     cell .sty .absolute 4, cell .sta .absolute 4,
     cell .stx .absolute 4, cell .sax .absolute 4]

/-- Row 9x of the opcode map (R95). -/
def opcodeRow9 : Vector Descriptor 16 :=
  #v[cell .bcc .relative 2, cell .sta .indirectIndexedY 6,
     cellJam, cell .ahx .indirectIndexedY 6,
     cell .sty .zeropageIndexedX 4, cell .sta .zeropageIndexedX 4,
     cell .stx .zeropageIndexedY 4, cell .sax .zeropageIndexedY 4,
     cell .tya .implied 2, cell .sta .absoluteIndexedY 5,
     cell .txs .implied 2, cell .tas .absoluteIndexedY 5,
     cell .shy .absoluteIndexedX 5, cell .sta .absoluteIndexedX 5,
     cell .shx .absoluteIndexedY 5, cell .ahx .absoluteIndexedY 5]

/-- Row Ax of the opcode map (R95). -/
def opcodeRowA : Vector Descriptor 16 :=
  #v[cell .ldy .immediate 2, cell .lda .indexedIndirectX 6,
     cell .ldx .immediate 2, cell .lax .indexedIndirectX 6,
     cell .ldy .zeropage 3, cell .lda .zeropage 3,
     cell .ldx .zeropage 3, cell .lax .zeropage 3,
     cell .tay .implied 2, cell .lda .immediate 2,
     cell .tax .implied 2, cell .lax .immediate 2,
     cell .ldy .absolute 4, cell .lda .absolute 4,
     cell .ldx .absolute 4, cell .lax .absolute 4]

/-- Row Bx of the opcode map (R95). -/
def opcodeRowB : Vector Descriptor 16 :=
  #v[cell .bcs .relative 2, cellPlus .lda .indirectIndexedY 5,
     cellJam, cellPlus .lax .indirectIndexedY 5,
     cell .ldy .zeropageIndexedX 4, cell .lda .zeropageIndexedX 4,
     cell .ldx .zeropageIndexedY 4, cell .lax .zeropageIndexedY 4,
     cell .clv .implied 2, cellPlus .lda .absoluteIndexedY 4,
     cell .tsx .implied 2, cellPlus .las .absoluteIndexedY 4,
     cellPlus .ldy .absoluteIndexedX 4, cellPlus .lda .absoluteIndexedX 4,
     cellPlus .ldx .absoluteIndexedY 4, cellPlus .lax .absoluteIndexedY 4]

/-- Row Cx of the opcode map (R95). -/
def opcodeRowC : Vector Descriptor 16 :=
  #v[cell .cpy .immediate 2, cell .cmp .indexedIndirectX 6,
     cell .nop .immediate 2, cell .dcp .indexedIndirectX 8,
     cell .cpy .zeropage 3, cell .cmp .zeropage 3,
     cell .dec .zeropage 5, cell .dcp .zeropage 5,
     cell .iny .implied 2, cell .cmp .immediate 2,
     cell .dex .implied 2, cell .axs .immediate 2,
     cell .cpy .absolute 4, cell .cmp .absolute 4,
     cell .dec .absolute 6, cell .dcp .absolute 6]

/-- Row Dx of the opcode map (R95). -/
def opcodeRowD : Vector Descriptor 16 :=
  #v[cell .bne .relative 2, cellPlus .cmp .indirectIndexedY 5,
     cellJam, cell .dcp .indirectIndexedY 8,
     cell .nop .zeropageIndexedX 4, cell .cmp .zeropageIndexedX 4,
     cell .dec .zeropageIndexedX 6, cell .dcp .zeropageIndexedX 6,
     cell .cld .implied 2, cellPlus .cmp .absoluteIndexedY 4,
     cell .nop .implied 2, cell .dcp .absoluteIndexedY 7,
     cellPlus .nop .absoluteIndexedX 4, cellPlus .cmp .absoluteIndexedX 4,
     cell .dec .absoluteIndexedX 7, cell .dcp .absoluteIndexedX 7]

/-- Row Ex of the opcode map (R95). -/
def opcodeRowE : Vector Descriptor 16 :=
  #v[cell .cpx .immediate 2, cell .sbc .indexedIndirectX 6,
     cell .nop .immediate 2, cell .isc .indexedIndirectX 8,
     cell .cpx .zeropage 3, cell .sbc .zeropage 3,
     cell .inc .zeropage 5, cell .isc .zeropage 5,
     cell .inx .implied 2, cell .sbc .immediate 2,
     cell .nop .implied 2, cell .sbc .immediate 2,
     cell .cpx .absolute 4, cell .sbc .absolute 4,
     cell .inc .absolute 6, cell .isc .absolute 6]

/-- Row Fx of the opcode map (R95). -/
def opcodeRowF : Vector Descriptor 16 :=
  #v[cell .beq .relative 2, cellPlus .sbc .indirectIndexedY 5,
     cellJam, cell .isc .indirectIndexedY 8,
     cell .nop .zeropageIndexedX 4, cell .sbc .zeropageIndexedX 4,
     cell .inc .zeropageIndexedX 6, cell .isc .zeropageIndexedX 6,
     cell .sed .implied 2, cellPlus .sbc .absoluteIndexedY 4,
     cell .nop .implied 2, cell .isc .absoluteIndexedY 7,
     cellPlus .nop .absoluteIndexedX 4, cellPlus .sbc .absoluteIndexedX 4,
     cell .inc .absoluteIndexedX 7, cell .isc .absoluteIndexedX 7]

/-- The high digit of an opcode byte: its row in the map. -/
def rowOf (opcode : Byte) : Fin 16 := (opcode.extractLsb' 4 4).toFin

/-- The low digit of an opcode byte: its column in the map. -/
def columnOf (opcode : Byte) : Fin 16 := (opcode.extractLsb' 0 4).toFin

/-- The opcode map of R95 by row. -/
def opcodeMap : Vector (Vector Descriptor 16) 16 :=
  #v[opcodeRow0, opcodeRow1, opcodeRow2, opcodeRow3, opcodeRow4, opcodeRow5, opcodeRow6, opcodeRow7,
     opcodeRow8, opcodeRow9, opcodeRowA, opcodeRowB, opcodeRowC, opcodeRowD, opcodeRowE, opcodeRowF]

/-- `decode(opcode) -> Descriptor` of the opcode decoder (R93): total and pure, the cell at the opcode's row and column. -/
def descriptor (opcode : Byte) : Descriptor := opcodeMap[rowOf opcode][columnOf opcode]

/-- The instructions of row 0x, each from its operand bytes 1 and 2 (R90, R92). -/
def instrRow0 : Vector (Byte → Byte → Instr) 16 :=
  #v[fun _ _ => .brk, fun b _ => .oraIzx b,
     fun _ _ => .jam02, fun b _ => .sloIzx b,
     fun b _ => .nopZp04 b, fun b _ => .oraZp b,
     fun b _ => .aslZp b, fun b _ => .sloZp b,
     fun _ _ => .php, fun b _ => .oraImm b,
     fun _ _ => .aslAcc, fun b _ => .anc0B b,
     fun l h => .nopAbs (wordOf h l), fun l h => .oraAbs (wordOf h l),
     fun l h => .aslAbs (wordOf h l), fun l h => .sloAbs (wordOf h l)]

/-- The instructions of row 1x, each from its operand bytes 1 and 2 (R90, R92). -/
def instrRow1 : Vector (Byte → Byte → Instr) 16 :=
  #v[fun b _ => .bpl b, fun b _ => .oraIzy b,
     fun _ _ => .jam12, fun b _ => .sloIzy b,
     fun b _ => .nopZpx14 b, fun b _ => .oraZpx b,
     fun b _ => .aslZpx b, fun b _ => .sloZpx b,
     fun _ _ => .clc, fun l h => .oraAby (wordOf h l),
     fun _ _ => .nopImp1A, fun l h => .sloAby (wordOf h l),
     fun l h => .nopAbx1C (wordOf h l), fun l h => .oraAbx (wordOf h l),
     fun l h => .aslAbx (wordOf h l), fun l h => .sloAbx (wordOf h l)]

/-- The instructions of row 2x, each from its operand bytes 1 and 2 (R90, R92). -/
def instrRow2 : Vector (Byte → Byte → Instr) 16 :=
  #v[fun l h => .jsr (wordOf h l), fun b _ => .andIzx b,
     fun _ _ => .jam22, fun b _ => .rlaIzx b,
     fun b _ => .bitZp b, fun b _ => .andZp b,
     fun b _ => .rolZp b, fun b _ => .rlaZp b,
     fun _ _ => .plp, fun b _ => .andImm b,
     fun _ _ => .rolAcc, fun b _ => .anc2B b,
     fun l h => .bitAbs (wordOf h l), fun l h => .andAbs (wordOf h l),
     fun l h => .rolAbs (wordOf h l), fun l h => .rlaAbs (wordOf h l)]

/-- The instructions of row 3x, each from its operand bytes 1 and 2 (R90, R92). -/
def instrRow3 : Vector (Byte → Byte → Instr) 16 :=
  #v[fun b _ => .bmi b, fun b _ => .andIzy b,
     fun _ _ => .jam32, fun b _ => .rlaIzy b,
     fun b _ => .nopZpx34 b, fun b _ => .andZpx b,
     fun b _ => .rolZpx b, fun b _ => .rlaZpx b,
     fun _ _ => .sec, fun l h => .andAby (wordOf h l),
     fun _ _ => .nopImp3A, fun l h => .rlaAby (wordOf h l),
     fun l h => .nopAbx3C (wordOf h l), fun l h => .andAbx (wordOf h l),
     fun l h => .rolAbx (wordOf h l), fun l h => .rlaAbx (wordOf h l)]

/-- The instructions of row 4x, each from its operand bytes 1 and 2 (R90, R92). -/
def instrRow4 : Vector (Byte → Byte → Instr) 16 :=
  #v[fun _ _ => .rti, fun b _ => .eorIzx b,
     fun _ _ => .jam42, fun b _ => .sreIzx b,
     fun b _ => .nopZp44 b, fun b _ => .eorZp b,
     fun b _ => .lsrZp b, fun b _ => .sreZp b,
     fun _ _ => .pha, fun b _ => .eorImm b,
     fun _ _ => .lsrAcc, fun b _ => .alr b,
     fun l h => .jmpAbs (wordOf h l), fun l h => .eorAbs (wordOf h l),
     fun l h => .lsrAbs (wordOf h l), fun l h => .sreAbs (wordOf h l)]

/-- The instructions of row 5x, each from its operand bytes 1 and 2 (R90, R92). -/
def instrRow5 : Vector (Byte → Byte → Instr) 16 :=
  #v[fun b _ => .bvc b, fun b _ => .eorIzy b,
     fun _ _ => .jam52, fun b _ => .sreIzy b,
     fun b _ => .nopZpx54 b, fun b _ => .eorZpx b,
     fun b _ => .lsrZpx b, fun b _ => .sreZpx b,
     fun _ _ => .cli, fun l h => .eorAby (wordOf h l),
     fun _ _ => .nopImp5A, fun l h => .sreAby (wordOf h l),
     fun l h => .nopAbx5C (wordOf h l), fun l h => .eorAbx (wordOf h l),
     fun l h => .lsrAbx (wordOf h l), fun l h => .sreAbx (wordOf h l)]

/-- The instructions of row 6x, each from its operand bytes 1 and 2 (R90, R92). -/
def instrRow6 : Vector (Byte → Byte → Instr) 16 :=
  #v[fun _ _ => .rts, fun b _ => .adcIzx b,
     fun _ _ => .jam62, fun b _ => .rraIzx b,
     fun b _ => .nopZp64 b, fun b _ => .adcZp b,
     fun b _ => .rorZp b, fun b _ => .rraZp b,
     fun _ _ => .pla, fun b _ => .adcImm b,
     fun _ _ => .rorAcc, fun b _ => .arr b,
     fun l h => .jmpInd (wordOf h l), fun l h => .adcAbs (wordOf h l),
     fun l h => .rorAbs (wordOf h l), fun l h => .rraAbs (wordOf h l)]

/-- The instructions of row 7x, each from its operand bytes 1 and 2 (R90, R92). -/
def instrRow7 : Vector (Byte → Byte → Instr) 16 :=
  #v[fun b _ => .bvs b, fun b _ => .adcIzy b,
     fun _ _ => .jam72, fun b _ => .rraIzy b,
     fun b _ => .nopZpx74 b, fun b _ => .adcZpx b,
     fun b _ => .rorZpx b, fun b _ => .rraZpx b,
     fun _ _ => .sei, fun l h => .adcAby (wordOf h l),
     fun _ _ => .nopImp7A, fun l h => .rraAby (wordOf h l),
     fun l h => .nopAbx7C (wordOf h l), fun l h => .adcAbx (wordOf h l),
     fun l h => .rorAbx (wordOf h l), fun l h => .rraAbx (wordOf h l)]

/-- The instructions of row 8x, each from its operand bytes 1 and 2 (R90, R92). -/
def instrRow8 : Vector (Byte → Byte → Instr) 16 :=
  #v[fun b _ => .nopImm80 b, fun b _ => .staIzx b,
     fun b _ => .nopImm82 b, fun b _ => .saxIzx b,
     fun b _ => .styZp b, fun b _ => .staZp b,
     fun b _ => .stxZp b, fun b _ => .saxZp b,
     fun _ _ => .dey, fun b _ => .nopImm89 b,
     fun _ _ => .txa, fun b _ => .xaa b,
     fun l h => .styAbs (wordOf h l), fun l h => .staAbs (wordOf h l),
     fun l h => .stxAbs (wordOf h l), fun l h => .saxAbs (wordOf h l)]

/-- The instructions of row 9x, each from its operand bytes 1 and 2 (R90, R92). -/
def instrRow9 : Vector (Byte → Byte → Instr) 16 :=
  #v[fun b _ => .bcc b, fun b _ => .staIzy b,
     fun _ _ => .jam92, fun b _ => .ahxIzy b,
     fun b _ => .styZpx b, fun b _ => .staZpx b,
     fun b _ => .stxZpy b, fun b _ => .saxZpy b,
     fun _ _ => .tya, fun l h => .staAby (wordOf h l),
     fun _ _ => .txs, fun l h => .tas (wordOf h l),
     fun l h => .shy (wordOf h l), fun l h => .staAbx (wordOf h l),
     fun l h => .shx (wordOf h l), fun l h => .ahxAby (wordOf h l)]

/-- The instructions of row Ax, each from its operand bytes 1 and 2 (R90, R92). -/
def instrRowA : Vector (Byte → Byte → Instr) 16 :=
  #v[fun b _ => .ldyImm b, fun b _ => .ldaIzx b,
     fun b _ => .ldxImm b, fun b _ => .laxIzx b,
     fun b _ => .ldyZp b, fun b _ => .ldaZp b,
     fun b _ => .ldxZp b, fun b _ => .laxZp b,
     fun _ _ => .tay, fun b _ => .ldaImm b,
     fun _ _ => .tax, fun b _ => .laxImm b,
     fun l h => .ldyAbs (wordOf h l), fun l h => .ldaAbs (wordOf h l),
     fun l h => .ldxAbs (wordOf h l), fun l h => .laxAbs (wordOf h l)]

/-- The instructions of row Bx, each from its operand bytes 1 and 2 (R90, R92). -/
def instrRowB : Vector (Byte → Byte → Instr) 16 :=
  #v[fun b _ => .bcs b, fun b _ => .ldaIzy b,
     fun _ _ => .jamB2, fun b _ => .laxIzy b,
     fun b _ => .ldyZpx b, fun b _ => .ldaZpx b,
     fun b _ => .ldxZpy b, fun b _ => .laxZpy b,
     fun _ _ => .clv, fun l h => .ldaAby (wordOf h l),
     fun _ _ => .tsx, fun l h => .las (wordOf h l),
     fun l h => .ldyAbx (wordOf h l), fun l h => .ldaAbx (wordOf h l),
     fun l h => .ldxAby (wordOf h l), fun l h => .laxAby (wordOf h l)]

/-- The instructions of row Cx, each from its operand bytes 1 and 2 (R90, R92). -/
def instrRowC : Vector (Byte → Byte → Instr) 16 :=
  #v[fun b _ => .cpyImm b, fun b _ => .cmpIzx b,
     fun b _ => .nopImmC2 b, fun b _ => .dcpIzx b,
     fun b _ => .cpyZp b, fun b _ => .cmpZp b,
     fun b _ => .decZp b, fun b _ => .dcpZp b,
     fun _ _ => .iny, fun b _ => .cmpImm b,
     fun _ _ => .dex, fun b _ => .axs b,
     fun l h => .cpyAbs (wordOf h l), fun l h => .cmpAbs (wordOf h l),
     fun l h => .decAbs (wordOf h l), fun l h => .dcpAbs (wordOf h l)]

/-- The instructions of row Dx, each from its operand bytes 1 and 2 (R90, R92). -/
def instrRowD : Vector (Byte → Byte → Instr) 16 :=
  #v[fun b _ => .bne b, fun b _ => .cmpIzy b,
     fun _ _ => .jamD2, fun b _ => .dcpIzy b,
     fun b _ => .nopZpxD4 b, fun b _ => .cmpZpx b,
     fun b _ => .decZpx b, fun b _ => .dcpZpx b,
     fun _ _ => .cld, fun l h => .cmpAby (wordOf h l),
     fun _ _ => .nopImpDA, fun l h => .dcpAby (wordOf h l),
     fun l h => .nopAbxDC (wordOf h l), fun l h => .cmpAbx (wordOf h l),
     fun l h => .decAbx (wordOf h l), fun l h => .dcpAbx (wordOf h l)]

/-- The instructions of row Ex, each from its operand bytes 1 and 2 (R90, R92). -/
def instrRowE : Vector (Byte → Byte → Instr) 16 :=
  #v[fun b _ => .cpxImm b, fun b _ => .sbcIzx b,
     fun b _ => .nopImmE2 b, fun b _ => .iscIzx b,
     fun b _ => .cpxZp b, fun b _ => .sbcZp b,
     fun b _ => .incZp b, fun b _ => .iscZp b,
     fun _ _ => .inx, fun b _ => .sbcImm b,
     fun _ _ => .nopImp, fun b _ => .sbcImmEB b,
     fun l h => .cpxAbs (wordOf h l), fun l h => .sbcAbs (wordOf h l),
     fun l h => .incAbs (wordOf h l), fun l h => .iscAbs (wordOf h l)]

/-- The instructions of row Fx, each from its operand bytes 1 and 2 (R90, R92). -/
def instrRowF : Vector (Byte → Byte → Instr) 16 :=
  #v[fun b _ => .beq b, fun b _ => .sbcIzy b,
     fun _ _ => .jamF2, fun b _ => .iscIzy b,
     fun b _ => .nopZpxF4 b, fun b _ => .sbcZpx b,
     fun b _ => .incZpx b, fun b _ => .iscZpx b,
     fun _ _ => .sed, fun l h => .sbcAby (wordOf h l),
     fun _ _ => .nopImpFA, fun l h => .iscAby (wordOf h l),
     fun l h => .nopAbxFC (wordOf h l), fun l h => .sbcAbx (wordOf h l),
     fun l h => .incAbx (wordOf h l), fun l h => .iscAbx (wordOf h l)]

/-- The instructions by row of the map (R95). -/
def instrMap : Vector (Vector (Byte → Byte → Instr) 16) 16 :=
  #v[instrRow0, instrRow1, instrRow2, instrRow3, instrRow4, instrRow5, instrRow6, instrRow7,
     instrRow8, instrRow9, instrRowA, instrRowB, instrRowC, instrRowD, instrRowE, instrRowF]

/-- The instruction whose first byte is `opcode` and whose operand bytes, where it has them, are `b1` and `b2` (R90, R92,
R99): total, since no encoding is reserved (R97). An instruction ignores the operand bytes it does not have. -/
def decodeBytes (opcode b1 b2 : Byte) : Instr :=
  instrMap[rowOf opcode][columnOf opcode] b1 b2

/-- Why a list of bytes does not begin with a whole instruction. No opcode is rejected (R97). -/
inductive DecodeError where
  /-- There is no opcode byte. -/
  | noOpcode
  /-- The list ends inside the operand bytes of the opcode. -/
  | truncated (opcode : Byte)
deriving DecidableEq, Repr

/-- Reads one instruction from a list of bytes and answers it with the rest of the list (R90, R91). -/
def decode : List Byte → Except DecodeError (Instr × List Byte)
  | [] => .error .noOpcode
  | op :: rest =>
    match (descriptor op).mode.operandBytes, rest with
    | 0, rest => .ok (decodeBytes op 0 0, rest)
    | 1, b1 :: rest => .ok (decodeBytes op b1 0, rest)
    | 2, b1 :: b2 :: rest => .ok (decodeBytes op b1 b2, rest)
    | _, _ => .error (.truncated op)

/-- The opcode byte of each instruction (R95). -/
def Instr.opcode : Instr → Byte
  | .brk => 0x00#8
  | .oraIzx _ => 0x01#8
  | .jam02 => 0x02#8
  | .sloIzx _ => 0x03#8
  | .nopZp04 _ => 0x04#8
  | .oraZp _ => 0x05#8
  | .aslZp _ => 0x06#8
  | .sloZp _ => 0x07#8
  | .php => 0x08#8
  | .oraImm _ => 0x09#8
  | .aslAcc => 0x0A#8
  | .anc0B _ => 0x0B#8
  | .nopAbs _ => 0x0C#8
  | .oraAbs _ => 0x0D#8
  | .aslAbs _ => 0x0E#8
  | .sloAbs _ => 0x0F#8
  | .bpl _ => 0x10#8
  | .oraIzy _ => 0x11#8
  | .jam12 => 0x12#8
  | .sloIzy _ => 0x13#8
  | .nopZpx14 _ => 0x14#8
  | .oraZpx _ => 0x15#8
  | .aslZpx _ => 0x16#8
  | .sloZpx _ => 0x17#8
  | .clc => 0x18#8
  | .oraAby _ => 0x19#8
  | .nopImp1A => 0x1A#8
  | .sloAby _ => 0x1B#8
  | .nopAbx1C _ => 0x1C#8
  | .oraAbx _ => 0x1D#8
  | .aslAbx _ => 0x1E#8
  | .sloAbx _ => 0x1F#8
  | .jsr _ => 0x20#8
  | .andIzx _ => 0x21#8
  | .jam22 => 0x22#8
  | .rlaIzx _ => 0x23#8
  | .bitZp _ => 0x24#8
  | .andZp _ => 0x25#8
  | .rolZp _ => 0x26#8
  | .rlaZp _ => 0x27#8
  | .plp => 0x28#8
  | .andImm _ => 0x29#8
  | .rolAcc => 0x2A#8
  | .anc2B _ => 0x2B#8
  | .bitAbs _ => 0x2C#8
  | .andAbs _ => 0x2D#8
  | .rolAbs _ => 0x2E#8
  | .rlaAbs _ => 0x2F#8
  | .bmi _ => 0x30#8
  | .andIzy _ => 0x31#8
  | .jam32 => 0x32#8
  | .rlaIzy _ => 0x33#8
  | .nopZpx34 _ => 0x34#8
  | .andZpx _ => 0x35#8
  | .rolZpx _ => 0x36#8
  | .rlaZpx _ => 0x37#8
  | .sec => 0x38#8
  | .andAby _ => 0x39#8
  | .nopImp3A => 0x3A#8
  | .rlaAby _ => 0x3B#8
  | .nopAbx3C _ => 0x3C#8
  | .andAbx _ => 0x3D#8
  | .rolAbx _ => 0x3E#8
  | .rlaAbx _ => 0x3F#8
  | .rti => 0x40#8
  | .eorIzx _ => 0x41#8
  | .jam42 => 0x42#8
  | .sreIzx _ => 0x43#8
  | .nopZp44 _ => 0x44#8
  | .eorZp _ => 0x45#8
  | .lsrZp _ => 0x46#8
  | .sreZp _ => 0x47#8
  | .pha => 0x48#8
  | .eorImm _ => 0x49#8
  | .lsrAcc => 0x4A#8
  | .alr _ => 0x4B#8
  | .jmpAbs _ => 0x4C#8
  | .eorAbs _ => 0x4D#8
  | .lsrAbs _ => 0x4E#8
  | .sreAbs _ => 0x4F#8
  | .bvc _ => 0x50#8
  | .eorIzy _ => 0x51#8
  | .jam52 => 0x52#8
  | .sreIzy _ => 0x53#8
  | .nopZpx54 _ => 0x54#8
  | .eorZpx _ => 0x55#8
  | .lsrZpx _ => 0x56#8
  | .sreZpx _ => 0x57#8
  | .cli => 0x58#8
  | .eorAby _ => 0x59#8
  | .nopImp5A => 0x5A#8
  | .sreAby _ => 0x5B#8
  | .nopAbx5C _ => 0x5C#8
  | .eorAbx _ => 0x5D#8
  | .lsrAbx _ => 0x5E#8
  | .sreAbx _ => 0x5F#8
  | .rts => 0x60#8
  | .adcIzx _ => 0x61#8
  | .jam62 => 0x62#8
  | .rraIzx _ => 0x63#8
  | .nopZp64 _ => 0x64#8
  | .adcZp _ => 0x65#8
  | .rorZp _ => 0x66#8
  | .rraZp _ => 0x67#8
  | .pla => 0x68#8
  | .adcImm _ => 0x69#8
  | .rorAcc => 0x6A#8
  | .arr _ => 0x6B#8
  | .jmpInd _ => 0x6C#8
  | .adcAbs _ => 0x6D#8
  | .rorAbs _ => 0x6E#8
  | .rraAbs _ => 0x6F#8
  | .bvs _ => 0x70#8
  | .adcIzy _ => 0x71#8
  | .jam72 => 0x72#8
  | .rraIzy _ => 0x73#8
  | .nopZpx74 _ => 0x74#8
  | .adcZpx _ => 0x75#8
  | .rorZpx _ => 0x76#8
  | .rraZpx _ => 0x77#8
  | .sei => 0x78#8
  | .adcAby _ => 0x79#8
  | .nopImp7A => 0x7A#8
  | .rraAby _ => 0x7B#8
  | .nopAbx7C _ => 0x7C#8
  | .adcAbx _ => 0x7D#8
  | .rorAbx _ => 0x7E#8
  | .rraAbx _ => 0x7F#8
  | .nopImm80 _ => 0x80#8
  | .staIzx _ => 0x81#8
  | .nopImm82 _ => 0x82#8
  | .saxIzx _ => 0x83#8
  | .styZp _ => 0x84#8
  | .staZp _ => 0x85#8
  | .stxZp _ => 0x86#8
  | .saxZp _ => 0x87#8
  | .dey => 0x88#8
  | .nopImm89 _ => 0x89#8
  | .txa => 0x8A#8
  | .xaa _ => 0x8B#8
  | .styAbs _ => 0x8C#8
  | .staAbs _ => 0x8D#8
  | .stxAbs _ => 0x8E#8
  | .saxAbs _ => 0x8F#8
  | .bcc _ => 0x90#8
  | .staIzy _ => 0x91#8
  | .jam92 => 0x92#8
  | .ahxIzy _ => 0x93#8
  | .styZpx _ => 0x94#8
  | .staZpx _ => 0x95#8
  | .stxZpy _ => 0x96#8
  | .saxZpy _ => 0x97#8
  | .tya => 0x98#8
  | .staAby _ => 0x99#8
  | .txs => 0x9A#8
  | .tas _ => 0x9B#8
  | .shy _ => 0x9C#8
  | .staAbx _ => 0x9D#8
  | .shx _ => 0x9E#8
  | .ahxAby _ => 0x9F#8
  | .ldyImm _ => 0xA0#8
  | .ldaIzx _ => 0xA1#8
  | .ldxImm _ => 0xA2#8
  | .laxIzx _ => 0xA3#8
  | .ldyZp _ => 0xA4#8
  | .ldaZp _ => 0xA5#8
  | .ldxZp _ => 0xA6#8
  | .laxZp _ => 0xA7#8
  | .tay => 0xA8#8
  | .ldaImm _ => 0xA9#8
  | .tax => 0xAA#8
  | .laxImm _ => 0xAB#8
  | .ldyAbs _ => 0xAC#8
  | .ldaAbs _ => 0xAD#8
  | .ldxAbs _ => 0xAE#8
  | .laxAbs _ => 0xAF#8
  | .bcs _ => 0xB0#8
  | .ldaIzy _ => 0xB1#8
  | .jamB2 => 0xB2#8
  | .laxIzy _ => 0xB3#8
  | .ldyZpx _ => 0xB4#8
  | .ldaZpx _ => 0xB5#8
  | .ldxZpy _ => 0xB6#8
  | .laxZpy _ => 0xB7#8
  | .clv => 0xB8#8
  | .ldaAby _ => 0xB9#8
  | .tsx => 0xBA#8
  | .las _ => 0xBB#8
  | .ldyAbx _ => 0xBC#8
  | .ldaAbx _ => 0xBD#8
  | .ldxAby _ => 0xBE#8
  | .laxAby _ => 0xBF#8
  | .cpyImm _ => 0xC0#8
  | .cmpIzx _ => 0xC1#8
  | .nopImmC2 _ => 0xC2#8
  | .dcpIzx _ => 0xC3#8
  | .cpyZp _ => 0xC4#8
  | .cmpZp _ => 0xC5#8
  | .decZp _ => 0xC6#8
  | .dcpZp _ => 0xC7#8
  | .iny => 0xC8#8
  | .cmpImm _ => 0xC9#8
  | .dex => 0xCA#8
  | .axs _ => 0xCB#8
  | .cpyAbs _ => 0xCC#8
  | .cmpAbs _ => 0xCD#8
  | .decAbs _ => 0xCE#8
  | .dcpAbs _ => 0xCF#8
  | .bne _ => 0xD0#8
  | .cmpIzy _ => 0xD1#8
  | .jamD2 => 0xD2#8
  | .dcpIzy _ => 0xD3#8
  | .nopZpxD4 _ => 0xD4#8
  | .cmpZpx _ => 0xD5#8
  | .decZpx _ => 0xD6#8
  | .dcpZpx _ => 0xD7#8
  | .cld => 0xD8#8
  | .cmpAby _ => 0xD9#8
  | .nopImpDA => 0xDA#8
  | .dcpAby _ => 0xDB#8
  | .nopAbxDC _ => 0xDC#8
  | .cmpAbx _ => 0xDD#8
  | .decAbx _ => 0xDE#8
  | .dcpAbx _ => 0xDF#8
  | .cpxImm _ => 0xE0#8
  | .sbcIzx _ => 0xE1#8
  | .nopImmE2 _ => 0xE2#8
  | .iscIzx _ => 0xE3#8
  | .cpxZp _ => 0xE4#8
  | .sbcZp _ => 0xE5#8
  | .incZp _ => 0xE6#8
  | .iscZp _ => 0xE7#8
  | .inx => 0xE8#8
  | .sbcImm _ => 0xE9#8
  | .nopImp => 0xEA#8
  | .sbcImmEB _ => 0xEB#8
  | .cpxAbs _ => 0xEC#8
  | .sbcAbs _ => 0xED#8
  | .incAbs _ => 0xEE#8
  | .iscAbs _ => 0xEF#8
  | .beq _ => 0xF0#8
  | .sbcIzy _ => 0xF1#8
  | .jamF2 => 0xF2#8
  | .iscIzy _ => 0xF3#8
  | .nopZpxF4 _ => 0xF4#8
  | .sbcZpx _ => 0xF5#8
  | .incZpx _ => 0xF6#8
  | .iscZpx _ => 0xF7#8
  | .sed => 0xF8#8
  | .sbcAby _ => 0xF9#8
  | .nopImpFA => 0xFA#8
  | .iscAby _ => 0xFB#8
  | .nopAbxFC _ => 0xFC#8
  | .sbcAbx _ => 0xFD#8
  | .incAbx _ => 0xFE#8
  | .iscAbx _ => 0xFF#8

/-- The operand bytes of a memory operand: one address byte, or a little-endian 16-bit address (R92). -/
def MemOperand.bytes : MemOperand → List Byte
  | .zp ad | .zpx ad | .zpy ad | .izx ad | .izy ad => [ad]
  | .abs w | .abx w | .aby w => [loByte w, hiByte w]

/-- The operand bytes of an operand (R92). -/
def Operand.bytes : Operand → List Byte
  | .implied | .accumulator => []
  | .immediate v => [v]
  | .memory m => m.bytes
  | .indirect w => [loByte w, hiByte w]
  | .relative off => [off]

/-- The bytes of an instruction: the opcode byte, then its operand bytes at the next addresses (R90). -/
def encode (i : Instr) : List Byte := i.opcode :: i.operand.bytes

/-- The instruction this decoder reads from an instruction whose bits are `w`, bit 0 the least significant bit of the first
byte, a later byte's bits counting on from it, and every bit from `nbits` on zero. -/
def decodeTableWord (nbits w : Nat) : Option Instr :=
  let bits := w % 2 ^ nbits
  let bytes : List Byte := [BitVec.ofNat 8 bits, BitVec.ofNat 8 (bits / 256), BitVec.ofNat 8 (bits / 65536)]
  match decode bytes with
  | .ok (i, _) => some i
  | .error _ => none

end Sys2Proof
end

