-- ==== Sys2Proof/Config.lean ====
section
/-! DEFINITION. The named parameters of the block (spec 00_scope.md R9) except POWER_ON, which is a record of draws of
registers and stands in Machine/State.lean. The parameters are a field of State (log 6), so a statement about every
state holds for every value of them. -/

namespace Sys2Proof

/-- `DECIMAL_MODE : NMOS | REJECT` (R9, R183, decision D1). -/
inductive DecimalMode where
  | nmos
  | reject
deriving DecidableEq, Repr

/-- The parameters DECIMAL_MODE, ANE_MAGIC and LXA_MAGIC of 00_scope.md R9. -/
structure Config where
  decimalMode : DecimalMode
  aneMagic : Byte
  lxaMagic : Byte
deriving DecidableEq, Repr

/-- The decided value of each parameter (R9, decisions D1 and D12). -/
def Config.decided : Config where
  decimalMode := .nmos
  aneMagic := 0xEE#8
  lxaMagic := 0xEE#8

end Sys2Proof
end

