-- ==== Sys2Proof/Machine/State.lean ====
section
/-! DEFINITION. The state of the core as plain data (spec 10_state.md, sections 1 to 4; INVENTORY.md "State"), the outcomes
that end a run, and the state right after reset. -/

namespace Sys2Proof.Machine

/-- The core raises no fault (60_exceptions.md R400: "no instruction traps, no operand or address faults, no illegal-opcode
trap"; R401 and R402 ask a model to have no outcome for the two unreachable conditions; R403: a rejected write is ignored).
So the type has no constructor: nobody raises a fault, which is exact, neither safe nor unsafe. -/
inductive Fault : Type where
deriving DecidableEq, Repr

/-- Why a step is refused. -/
inductive Refusal where
  /-- Raised by an arm of `exec` whose instruction has no meaning yet; safe (the run stops). No arm raises it. -/
  | notModelled (mnemonic : String)
  /-- The outcome REFUSED of 10_state.md R43 and 42_arith_logic.md R183: raised by ADC, SBC, RRA, ISC and ARR when D = 1 and
  `decimalMode` is `reject`, and by nothing else. Safe: the run stops with the state as before the step (log 7). -/
  | decimalUnsupported
deriving DecidableEq, Repr

/-- What a step or an instruction answers. -/
abbrev Result (σ : Type) := Host.Outcome σ Fault Refusal

/-- The six latched flags of P (10_state.md R26, R28 to R34). Bits 5 and 4 are not latches (90_conflicts.md C9). -/
structure Flags where
  /-- Negative, bit 7 (R29). -/
  n : Bool
  /-- Overflow, bit 6 (R30). -/
  v : Bool
  /-- Decimal, bit 3 (R31). -/
  d : Bool
  /-- InterruptDisable, bit 2 (R32). -/
  i : Bool
  /-- Zero, bit 1 (R33). -/
  z : Bool
  /-- Carry, bit 0 (R34). -/
  c : Bool
deriving DecidableEq, Repr

/-- Kind `R` or `W` of a trace entry (10_state.md R44). -/
inductive AccessKind where
  | read
  | write
deriving DecidableEq, Repr

/-- One trace entry `(kind, addr, value)`: one bus cycle (10_state.md R44). -/
structure BusAccess where
  kind : AccessKind
  addr : Word
  value : Byte
deriving DecidableEq, Repr

/-- The outcomes of 10_state.md R43 that leave a next state; REFUSED is `Refusal.decimalUnsupported`. -/
inductive StepOutcome where
  | ok
  | halted
deriving DecidableEq, Repr

/-- What the last step did: the event names of 60_exceptions.md R400 and the two cases without an event there (log 9). -/
inductive StepEvent where
  /-- One whole instruction other than BRK, named by its opcode byte (JAM among them). -/
  | instruction (opcode : Byte)
  /-- The software interrupt: the instruction 0x00. -/
  | brk
  | irq
  | nmi
  | reset
  /-- A step of a halted core. -/
  | idle
deriving DecidableEq, Repr

/-- One host call, in the order the host makes them (00_scope.md R11, R12; 70_reset_and_hazards.md R450; log 4). -/
inductive HostEvent where
  /-- The call `reset(state, bus)`. -/
  | reset
  /-- The call `step(state, bus, irq, nmi)` with these levels. -/
  | levels (irq nmi : Bool)
deriving DecidableEq, Repr

/-- A region of addresses `base ≤ a < base + size` whose writes the bus rejects (20_memory.md R62; log 2). -/
structure Region where
  base : Nat
  size : Nat
deriving DecidableEq, Repr

/-- The bytes behind the bus: (address, byte) pairs in the canonical form `Memory.wf` (Machine/Ops.lean). -/
abbrev Memory := List Host.Cell

/-- The whole state: registers (10_state.md R20), hidden state (R36 to R39), the parameters (00_scope.md R9), the bus and
the input levels the step port takes (R41), and the report the last step returned (R41, R43, R44). -/
structure State where
  /-- Accumulator (R21). -/
  a : Byte
  /-- Index register X (R22). -/
  x : Byte
  /-- Index register Y (R23). -/
  y : Byte
  /-- Stack pointer (R24). -/
  sp : Byte
  /-- Program counter (R25). -/
  pc : Word
  /-- The latched flags of P (R26). -/
  flags : Flags
  /-- Set by JAM, cleared by reset (R36). -/
  halted : Bool
  /-- The NMI level seen at the previous step (R37). -/
  nmiPrev : Bool
  /-- A latched asserting edge of NMI (R37). -/
  nmiPending : Bool
  /-- The value of I the next IRQ poll uses (R38). -/
  iPoll : Bool
  /-- Whether the next step may take an interrupt (R39). -/
  pollOk : Bool
  /-- The bytes behind the bus (20_memory.md R60). -/
  mem : Memory
  /-- Where the bus rejects writes (20_memory.md R62). -/
  readOnly : List Region
  /-- The parameters (00_scope.md R9). -/
  config : Config
  /-- The IRQ input level (R41, 60_exceptions.md R407). -/
  irqLine : Bool
  /-- The NMI input level (R41, 60_exceptions.md R408). -/
  nmiLine : Bool
  /-- The host calls of the coming boundaries, the next one first (log 4). -/
  host : List HostEvent
  /-- The outcome the last step returned (R43). -/
  outcome : StepOutcome
  /-- What the last step did (60_exceptions.md R400). -/
  event : StepEvent
  /-- The cycle count the last step returned (R41, 70_reset_and_hazards.md R455). -/
  cycles : Nat
  /-- The bus trace the last step returned, the first bus cycle first (R44). -/
  trace : List BusAccess
deriving DecidableEq, Repr

/-- The draws of `POWER_ON` (00_scope.md R9, 70_reset_and_hazards.md R453). -/
structure PowerOn where
  a : Byte
  x : Byte
  y : Byte
  sp : Byte
  pc : Word
  n : Bool
  v : Bool
  d : Bool
  z : Bool
  c : Bool
  nmiPrev : Bool
deriving DecidableEq, Repr

/-- The state at power-on, before the power-on reset (R453): the draws, `halted = 0`, and what the platform holds. The
fields that are not drawn (I, `nmiPending`, `iPoll`, `pollOk`) are overwritten by the power-on reset that follows. -/
def State.powerOn (draws : PowerOn) (mem : Memory) (readOnly : List Region) (config : Config) : State where
  a := draws.a
  x := draws.x
  y := draws.y
  sp := draws.sp
  pc := draws.pc
  flags := { n := draws.n, v := draws.v, d := draws.d, i := true, z := draws.z, c := draws.c }
  halted := false
  nmiPrev := draws.nmiPrev
  nmiPending := false
  iPoll := true
  pollOk := false
  mem := mem
  readOnly := readOnly
  config := config
  irqLine := false
  nmiLine := false
  host := []
  outcome := .ok
  event := .idle
  cycles := 0
  trace := []

/-- DESIGN CHOICE (log 3): the draws State.reset is built from, all zero. The spec keeps them free; `powerUp` of
Machine/Boundary.lean takes any draws. Unsafe. -/
def PowerOn.zeros : PowerOn where
  a := 0
  x := 0
  y := 0
  sp := 0
  pc := 0
  n := false
  v := false
  d := false
  z := false
  c := false
  nmiPrev := false

/-- The machine right after the power-on reset of 70_reset_and_hazards.md R451 to R453, from the draws of log 3 and a memory
that lists nothing: I = 1, SP three below the draw, PC the word at 0xFFFC, `pollOk = 0`, `iPoll = 1`, and the report
of the reset call (OK, 7 cycles, the seven reads). `reset_eq_powerUp` in Laws/Boundary.lean says it is that sequence. -/
def State.reset : State where
  a := 0
  x := 0
  y := 0
  sp := 0xFD#8
  pc := 0
  flags := { n := false, v := false, d := false, i := true, z := false, c := false }
  halted := false
  nmiPrev := false
  nmiPending := false
  iPoll := true
  pollOk := false
  mem := []
  readOnly := []
  config := Config.decided
  irqLine := false
  nmiLine := false
  host := []
  outcome := .ok
  event := .reset
  cycles := 7
  trace :=
    [⟨.read, 0x0000#16, 0⟩, ⟨.read, 0x0000#16, 0⟩, ⟨.read, 0x0100#16, 0⟩, ⟨.read, 0x01FF#16, 0⟩,
     ⟨.read, 0x01FE#16, 0⟩, ⟨.read, 0xFFFC#16, 0⟩, ⟨.read, 0xFFFD#16, 0⟩]

end Sys2Proof.Machine
end

