-- ==== Sys2Proof/Machine/Flags.lean ====
section
/-! DEFINITION. The flag computations and the arithmetic of the `alu_execution_unit` as functions of bytes and flags: the
status byte (spec 10_state.md R27, R28, R35), the adder (42_arith_logic.md R180 to R182), compare (R190), the shifts
(43_incdec_shift.md R230), ARR (46_undocumented.md R312). -/

namespace Sys2Proof.Machine

/-- `PRead(b)` (10_state.md R27): bit 5 reads 1, bit 4 is the push's `b`. -/
def Flags.pread (f : Flags) (b : Bool) : Byte :=
  BitVec.ofBool f.n ++ BitVec.ofBool f.v ++ 1#1 ++ BitVec.ofBool b ++
    BitVec.ofBool f.d ++ BitVec.ofBool f.i ++ BitVec.ofBool f.z ++ BitVec.ofBool f.c

/-- `PWrite(v)` (10_state.md R28): the six latches from their bits; bits 5 and 4 are discarded. -/
def Flags.pwrite (v : Byte) : Flags where
  n := v.getLsbD 7
  v := v.getLsbD 6
  d := v.getLsbD 3
  i := v.getLsbD 2
  z := v.getLsbD 1
  c := v.getLsbD 0

/-- `SetNZ(v)` (10_state.md R35). -/
def Flags.setNZ (f : Flags) (v : Byte) : Flags :=
  { f with n := v.getLsbD 7, z := v == 0 }

/-- `AddBinary(a, m, c)` (42_arith_logic.md R180): the result and the flags N, V, Z, C. -/
def addBinary (a m : Byte) (c : Bool) (f : Flags) : Byte × Flags :=
  let sum : Nat := a.toNat + m.toNat + c.toNat
  let r : Byte := BitVec.ofNat 8 sum
  (r, { f with
    n := r.getLsbD 7
    v := a.getLsbD 7 == m.getLsbD 7 && r.getLsbD 7 != a.getLsbD 7
    z := r == 0
    c := decide (256 ≤ sum) })

/-- `AdcDecimal(a, m, c)`, the NMOS decimal add (42_arith_logic.md R181): Z from the binary sum, N and V from the value before
the high-digit adjust. -/
def adcDecimal (a m : Byte) (c : Bool) (f : Flags) : Byte × Flags :=
  let al₀ : Nat := (a &&& 0x0F).toNat + (m &&& 0x0F).toNat + c.toNat
  let al : Nat := if 0x0A ≤ al₀ then (al₀ + 0x06) % 16 + 0x10 else al₀
  let s₀ : Nat := (a &&& 0xF0).toNat + (m &&& 0xF0).toNat + al
  let t : Int := (a &&& 0xF0).toInt + (m &&& 0xF0).toInt + al
  let s : Nat := if 0xA0 ≤ s₀ then s₀ + 0x60 else s₀
  (BitVec.ofNat 8 s, { f with
    n := (BitVec.ofNat 8 s₀).getLsbD 7
    v := decide (t < -128 ∨ 127 < t)
    z := decide ((a.toNat + m.toNat + c.toNat) % 256 = 0)
    c := decide (0x100 ≤ s) })

/-- The binary subtract of SBC (42_arith_logic.md R185): `AddBinary(a, ~m, c)`. -/
def sbcBinary (a m : Byte) (c : Bool) (f : Flags) : Byte × Flags :=
  addBinary a (~~~m) c f

/-- `SbcDecimal(a, m, c)`, the NMOS decimal subtract (42_arith_logic.md R182): every flag is the binary subtract's
(90_conflicts.md C7), only the result is decimal. -/
def sbcDecimal (a m : Byte) (c : Bool) (f : Flags) : Byte × Flags :=
  let al₀ : Int := (a &&& 0x0F).toNat - (m &&& 0x0F).toNat + c.toNat - 1
  let al : Int := if al₀ < 0 then (al₀ - 0x06) % 16 - 0x10 else al₀
  let s₀ : Int := (a &&& 0xF0).toNat - (m &&& 0xF0).toNat + al
  let s : Int := if s₀ < 0 then s₀ - 0x60 else s₀
  (BitVec.ofInt 8 s, (sbcBinary a m c f).2)

/-- The add of ADC and RRA: decimal when D = 1 (42_arith_logic.md R184). -/
def adcByte (a m : Byte) (f : Flags) : Byte × Flags :=
  if f.d then adcDecimal a m f.c f else addBinary a m f.c f

/-- The subtract of SBC and ISC: decimal when D = 1 (42_arith_logic.md R185). -/
def sbcByte (a m : Byte) (f : Flags) : Byte × Flags :=
  if f.d then sbcDecimal a m f.c f else sbcBinary a m f.c f

/-- `Compare(r, m)` (42_arith_logic.md R190): C when there is no borrow, N and Z from the difference; V and D untouched. -/
def compareFlags (r m : Byte) (f : Flags) : Flags :=
  let t : Nat := r.toNat + (~~~m).toNat + 1
  ({ f with c := decide (256 ≤ t) } : Flags).setNZ (BitVec.ofNat 8 t)

/-- The flags of BIT (42_arith_logic.md R189): Z from A AND M, N and V from bits 7 and 6 of M. -/
def bitTest (a m : Byte) (f : Flags) : Flags :=
  { f with n := m.getLsbD 7, v := m.getLsbD 6, z := a &&& m == 0 }

/-- `Asl(v)` (43_incdec_shift.md R230). -/
def asl (v : Byte) (f : Flags) : Byte × Flags :=
  (v <<< 1, { f with c := v.getLsbD 7 })

/-- `Lsr(v)` (43_incdec_shift.md R230). -/
def lsr (v : Byte) (f : Flags) : Byte × Flags :=
  (v >>> 1, { f with c := v.getLsbD 0 })

/-- `Rol(v)` (43_incdec_shift.md R230): the old carry enters bit 0. -/
def rol (v : Byte) (f : Flags) : Byte × Flags :=
  (v <<< 1 ||| (BitVec.ofBool f.c).zeroExtend 8, { f with c := v.getLsbD 7 })

/-- `Ror(v)` (43_incdec_shift.md R230): the old carry enters bit 7. -/
def ror (v : Byte) (f : Flags) : Byte × Flags :=
  (v >>> 1 ||| (BitVec.ofBool f.c).zeroExtend 8 <<< 7, { f with c := v.getLsbD 0 })

/-- ARR on `t = A & v` (46_undocumented.md R312) with D = 0: C from bit 6 of the result, V from bit 6 XOR bit 5. -/
def arrBinary (t : Byte) (f : Flags) : Byte × Flags :=
  let r : Byte := t >>> 1 ||| (BitVec.ofBool f.c).zeroExtend 8 <<< 7
  (r, { f.setNZ r with c := r.getLsbD 6, v := r.getLsbD 6 ^^ r.getLsbD 5 })

/-- ARR on `t = A & v` (46_undocumented.md R312) with D = 1: N, Z and V from the rotated byte, then a digit-wise adjust, whose
high half sets C. -/
def arrDecimal (t : Byte) (f : Flags) : Byte × Flags :=
  let r : Byte := t >>> 1 ||| (BitVec.ofBool f.c).zeroExtend 8 <<< 7
  let r₁ : Byte := if 5 < (t &&& 0x0F).toNat + (t &&& 0x01).toNat then (r &&& 0xF0) ||| ((r + 6) &&& 0x0F) else r
  let high : Bool := decide (5 < (t >>> 4).toNat + ((t >>> 4) &&& 0x01).toNat)
  (if high then r₁ + 0x60 else r₁, { f with
    n := f.c
    z := r == 0
    v := ((t ^^^ r) &&& 0x40) != 0
    c := high })

/-- ARR (46_undocumented.md R312). -/
def arrByte (t : Byte) (f : Flags) : Byte × Flags :=
  if f.d then arrDecimal t f else arrBinary t f

end Sys2Proof.Machine
end

