-- ==== Sys2Proof/Machine/Ops.lean ====
section
/-! DEFINITION. The named operations over memory, registers and the report: memory and the bus (spec 20_memory.md), the
primitives of 00_scope.md R17, the cycle scheduler (70_reset_and_hazards.md R455), the end of an instruction
(10_state.md R42), taking an exception (60_exceptions.md R412) and returning from one (44_control.md R264). -/

namespace Sys2Proof.Machine

/-! ## Memory -/

/-- DESIGN CHOICE (log 1): what an address that memory does not list reads as. Unsafe: the spec leaves it to the bus. -/
def Memory.unlisted : Byte := 0

/-- The byte at address `k`; an entry past `k` means that `k` is not listed. -/
def Memory.read : Memory → Nat → Byte
  | [], _ => Memory.unlisted
  | (j, b) :: rest, k => if k < j then Memory.unlisted else if k = j then b else Memory.read rest k

/-- The entry for byte `b` at `k`, none where an unlisted address reads as `b`, before the entries `rest`. -/
def Memory.entry (k : Nat) (b : Byte) (rest : Memory) : Memory :=
  if b = Memory.unlisted then rest else (k, b) :: rest

/-- Writes `b` at `k`, keeping the canonical form. -/
def Memory.write : Memory → Nat → Byte → Memory
  | [], k, b => Memory.entry k b []
  | (j, c) :: rest, k, b =>
    if k < j then Memory.entry k b ((j, c) :: rest)
    else if k = j then Memory.entry k b rest
    else (j, c) :: Memory.write rest k b

/-- Entries with rising addresses from `lo` on, inside the 64 KiB space, none equal to what an unlisted address reads as. -/
def Memory.wfFrom : Nat → Memory → Bool
  | _, [] => true
  | lo, (k, b) :: rest => decide (lo ≤ k) && decide (k < 65536) && b != Memory.unlisted && Memory.wfFrom (k + 1) rest

/-- The canonical form: equal memories are equal lists. -/
def Memory.wf (m : Memory) : Bool := Memory.wfFrom 0 m

/-- `read_byte(addr)` of the bus port (00_scope.md R10, 20_memory.md R61): always a byte. -/
def State.peek (s : State) (addr : Word) : Byte := Memory.read s.mem addr.toNat

/-- Whether the bus accepts a write at `addr` (20_memory.md R62; log 2). -/
def State.writable (s : State) (addr : Word) : Bool :=
  s.readOnly.all fun r => !(decide (r.base ≤ addr.toNat) && decide (addr.toNat < r.base + r.size))

/-- `write_byte(addr, value) -> Result<(), BusError>` of the bus port (00_scope.md R10, 20_memory.md R62): the memory after
it, and whether the bus answered BusError. A rejected write changes nothing. -/
def State.busWrite (s : State) (addr : Word) (v : Byte) : Memory × Bool :=
  if s.writable addr then (Memory.write s.mem addr.toNat v, false) else (s.mem, true)

/-! ## Primitives of 00_scope.md R17 -/

/-- Appends one bus access to the step's trace (10_state.md R44). -/
def State.log (s : State) (e : BusAccess) : State := { s with trace := s.trace ++ [e] }

/-- The bus cycle of a read: the access and the byte the bus returns go into the trace. -/
def State.readCycle (s : State) (addr : Word) : State := s.log ⟨.read, addr, s.peek addr⟩

/-- `DummyRead(addr)`: a bus read whose value is discarded. -/
def State.dummyRead (s : State) (addr : Word) : State := s.readCycle addr

/-- `MemRead(addr, 1)`: the byte the bus returns, and the state after the bus cycle. -/
def State.memRead (s : State) (addr : Word) : Byte × State := (s.peek addr, s.readCycle addr)

/-- `MemWrite(addr, 1, v)`: the write is in the trace whether or not the bus accepts it, and a BusError is dropped (R17,
20_memory.md R62, decision D3). -/
def State.memWrite (s : State) (addr : Word) (v : Byte) : State :=
  ({ s with mem := (s.busWrite addr v).1 } : State).log ⟨.write, addr, v⟩

/-- `Fetch()` of a byte of the instruction being executed: the read at PC is in the trace, PC advances (R17, 10_state.md R25).
The byte is the instruction's own (log 10). -/
def State.fetchByte (s : State) (b : Byte) : State :=
  { s.log ⟨.read, s.pc, b⟩ with pc := s.pc + 1 }

/-- `Fetch()` of a byte that is no part of the decoded instruction: BRK's padding byte (44_control.md R263). -/
def State.fetchNext (s : State) : State := s.fetchByte (s.peek s.pc)

/-- The stack byte SP points at: `0x0100 | zext_16(SP)` (10_state.md R24, 20_memory.md R69). -/
def stackAddr (sp : Byte) : Word := 0x0100#16 ||| zext16 sp

/-- `Push(v)`: writes, then decrements SP modulo 256 (R17, 10_state.md R24). -/
def State.push (s : State) (v : Byte) : State :=
  { s.memWrite (stackAddr s.sp) v with sp := s.sp - 1 }

/-- `A <- v`. -/
def State.setA (s : State) (v : Byte) : State := { s with a := v }

/-- `X <- v`. -/
def State.setX (s : State) (v : Byte) : State := { s with x := v }

/-- `Y <- v`. -/
def State.setY (s : State) (v : Byte) : State := { s with y := v }

/-- `SP <- v`. -/
def State.setSp (s : State) (v : Byte) : State := { s with sp := v }

/-- `pc <- target`. -/
def State.setPc (s : State) (w : Word) : State := { s with pc := w }

/-- Writes the six latches. -/
def State.setFlags (s : State) (f : Flags) : State := { s with flags := f }

/-- Writes `poll_ok` and `i_poll` (10_state.md R38, R39). -/
def State.setPoll (s : State) (pollOk iPoll : Bool) : State := { s with pollOk := pollOk, iPoll := iPoll }

/-- Clears `halted` and `nmi_pending`, the first act of a reset (70_reset_and_hazards.md R451). -/
def State.clearHaltAndNmi (s : State) : State := { s with halted := false, nmiPending := false }

/-- `SetNZ(v)` (10_state.md R35). -/
def State.setNZ (s : State) (v : Byte) : State := s.setFlags (s.flags.setNZ v)

/-- `Pull()`: increments SP modulo 256, then reads (R17, 10_state.md R24). -/
def State.pull (s : State) : Byte × State :=
  (s.setSp (s.sp + 1)).memRead (stackAddr (s.sp + 1))

/-- P as a host reads it between steps: `PRead(0)` (10_state.md R27, decision D23). -/
def State.statusByte (s : State) : Byte := s.flags.pread false

/-! ## The cycle scheduler and the end of a step -/

/-- The realized cycle count (70_reset_and_hazards.md R455): base, plus one if the descriptor is crossing-sensitive and a page
was crossed (R457), plus the branch penalty 0, 1 or 2 (R458). JAM, which has no base count, takes 1 (R290). -/
def realizedCycles (d : Descriptor) (crossed : Bool) (branchPenalty : Nat) : Nat :=
  match d.baseCycles with
  | none => 1
  | some base => base + (if d.extraOnCross && crossed then 1 else 0) + branchPenalty

/-- The phase counters of 70_reset_and_hazards.md R461. -/
structure Phases where
  fetch : Nat
  rmw : Nat
  execute : Nat
deriving DecidableEq, Repr

/-- The phase counters of a step from what it did and its cycle count (R461): the instruction-stream reads, 2 for a memory
read-modify-write instruction, the rest (DEDUCED for entries, reset and JAM: log 11). -/
def phaseCounters (e : StepEvent) (cycles : Nat) : Phases :=
  let stream : Nat :=
    match e with
    | .instruction op => 1 + (descriptor op).mode.operandBytes
    | .brk => 2
    | .irq | .nmi | .reset | .idle => 0
  let rmw : Nat :=
    match e with
    | .instruction op => if (descriptor op).rmw then 2 else 0
    | .brk | .irq | .nmi | .reset | .idle => 0
  { fetch := stream, rmw := rmw, execute := cycles - stream - rmw }

/-- Sets what the step reports beside its trace (10_state.md R41, R43). -/
def State.report (s : State) (o : StepOutcome) (e : StepEvent) (cycles : Nat) : State :=
  { s with outcome := o, event := e, cycles := cycles }

/-- Starts a step's trace: `trace <- []` (10_state.md R42). -/
def State.clearTrace (s : State) : State := { s with trace := [] }

/-- Cycle 1 of every instruction: a fresh trace with the opcode fetch (10_state.md R42). -/
def State.begin (s : State) (opcode : Byte) : State := s.clearTrace.fetchByte opcode

/-- The event of an instruction that completes: BRK has its own name (60_exceptions.md R400). -/
def eventOf (opcode : Byte) : StepEvent :=
  if (descriptor opcode).operation = .brk then .brk else .instruction opcode

/-- CLI, SEI and PLP, after which the IRQ poll still uses the I from before them (10_state.md R38, R42). -/
def lagsPoll : Operation → Bool
  | .cli | .sei | .plp => true
  | _ => false

/-- The end of an instruction (10_state.md R42): `poll_ok`, `i_poll`, and the report with the realized cycle count. -/
def State.finish (s : State) (opcode : Byte) (iBefore crossed : Bool) (branchPenalty : Nat) : State :=
  let d := descriptor opcode
  let iPoll := if lagsPoll d.operation then iBefore else s.flags.i
  (s.setPoll (d.operation != .brk) iPoll).report .ok (eventOf opcode) (realizedCycles d crossed branchPenalty)

/-! ## Exceptions -/

/-- The NMI vector (60_exceptions.md R413). -/
def vectorNmi : Word := 0xFFFA#16

/-- The RESET vector (R413). -/
def vectorReset : Word := 0xFFFC#16

/-- The IRQ/BRK vector (R413). -/
def vectorIrq : Word := 0xFFFE#16

/-- `read_word_le(addr)` for a vector, and the jump through it (20_memory.md R63, R70). -/
def State.jumpVector (s : State) (vec : Word) : State :=
  let lo := s.memRead vec
  let hi := lo.2.memRead (vec + 1)
  hi.2.setPc (wordOf hi.1 lo.1)

/-- Taking an exception, shared by IRQ, NMI (60_exceptions.md R412) and BRK (44_control.md R263): PC is pushed high byte first,
then P with B = `b`, I is set, D and the rest of P stay, PC is loaded from the vector word read through the bus, and no
interrupt is taken at the next boundary (10_state.md R38, R39). -/
def State.takeException (s : State) (b : Bool) (vec : Word) : State :=
  let s₁ := s.push (hiByte s.pc)
  let s₂ := s₁.push (loByte s₁.pc)
  let s₃ := s₂.push (s₂.flags.pread b)
  let s₄ := (s₃.setFlags { s₃.flags with i := true }).jumpVector vec
  s₄.setPoll false true

/-- The return from an exception, RTI's pulls (44_control.md R264, 60_exceptions.md R415): P without bits 5 and 4, then PC low,
PC high, no adjustment. -/
def State.returnFromException (s : State) : State :=
  let p := s.pull
  let lo := (p.2.setFlags (Flags.pwrite p.1)).pull
  let hi := lo.2.pull
  hi.2.setPc (wordOf hi.1 lo.1)

/-- `InterruptEntry(vec)` for IRQ and NMI, 7 cycles (60_exceptions.md R412): two discarded reads at PC, then the exception with
B = 0. -/
def State.interruptEntry (s : State) (e : StepEvent) (vec : Word) : State :=
  let s₁ := (s.clearTrace.dummyRead s.pc).dummyRead s.pc
  (s₁.takeException false vec).report .ok e 7

/-- One of the three stack cycles of reset: the push with its write suppressed (70_reset_and_hazards.md R451). -/
def State.resetStackCycle (s : State) : State :=
  (s.dummyRead (stackAddr s.sp)).setSp (s.sp - 1)

/-- The reset sequence, 7 cycles (70_reset_and_hazards.md R451): accepted in every state, writes nothing. -/
def State.takeReset (s : State) : State :=
  let s₁ := s.clearHaltAndNmi.clearTrace
  let s₂ := (s₁.dummyRead s₁.pc).dummyRead s₁.pc
  let s₃ := s₂.resetStackCycle.resetStackCycle.resetStackCycle
  let s₄ := (s₃.setFlags { s₃.flags with i := true }).jumpVector vectorReset
  (s₄.setPoll false true).report .ok .reset 7

/-- A step of a halted core: no bus access, no state change, outcome HALTED with 0 cycles (10_state.md R36, R42). -/
def State.stayHalted (s : State) : State := s.clearTrace.report .halted .idle 0

/-- JAM after its opcode fetch (45_flags_nop_jam.md R290): the core halts and the step ends with outcome HALTED, 1 cycle;
`pollOk` and `iPoll` stay, since R42 returns before it writes them. -/
def State.halt (s : State) (opcode : Byte) : State :=
  ({ s with halted := true } : State).report .halted (.instruction opcode)
    (realizedCycles (descriptor opcode) false 0)

/-- The outcome REFUSED (42_arith_logic.md R183, 10_state.md R42, R43): with `decimalMode = reject` and D = 1 a decimal
operation is refused and nothing changes; otherwise `k` is the answer. -/
def State.decimalGuard (s : State) (k : Result State) : Result State :=
  if s.config.decimalMode = .reject ∧ s.flags.d = true then .refused .decimalUnsupported else k

end Sys2Proof.Machine
end

