-- ==== Sys2Proof/Machine/Operands.lean ====
section
/-! DEFINITION. The addressing-mode resolver (spec 40_addressing.md) with every bus cycle in its place, and the shape of an
instruction of each access class: from the opcode fetch, through the mode's cycles and the operation, to the end of the
instruction. -/

namespace Sys2Proof.Machine

/-- The index a mode adds to a 16-bit base address (40_addressing.md R120, R122); the other modes add none to 16 bits. -/
def index16 (m : MemOperand) (s : State) : Option Byte :=
  match m with
  | .abx _ => some s.x
  | .aby _ | .izy _ => some s.y
  | .zp _ | .zpx _ | .zpy _ | .abs _ | .izx _ => none

/-- A zero-page pointer at `p`: low byte at `p`, high byte at `p + 1` modulo 256 (R121, R122, decision D5). -/
def State.pointerAt (s : State) (p : Byte) : Word := wordOf (s.peek (zext16 (p + 1))) (s.peek (zext16 p))

/-- The address before a 16-bit index is added (R125): zero-page indexing wraps modulo 256 (R118), the pointer of izx is
at `zp + X` modulo 256 (R121), that of izy at `zp` (R122). -/
def baseAddress (m : MemOperand) (s : State) : Word :=
  match m with
  | .zp ad => zext16 ad
  | .zpx ad => zext16 (ad + s.x)
  | .zpy ad => zext16 (ad + s.y)
  | .abs w | .abx w | .aby w => w
  | .izx ad => s.pointerAt (ad + s.x)
  | .izy ad => s.pointerAt ad

/-- The effective address EA (R117 to R122): the base, plus the 16-bit index modulo 65536. -/
def effectiveAddress (m : MemOperand) (s : State) : Word :=
  match index16 m s with
  | some r => baseAddress m s + zext16 r
  | none => baseAddress m s

/-- `unfixed = hi:(lo + r)`: the address whose high byte is not yet corrected (R120, R122). -/
def unfixedAddress (m : MemOperand) (s : State) : Word :=
  match index16 m s with
  | some r => wordOf (hiByte (baseAddress m s)) (loByte (baseAddress m s) + r)
  | none => baseAddress m s

/-- `page_crossed` (R125): the high byte of the effective address is not the base's. -/
def pageCrossed (m : MemOperand) (s : State) : Bool :=
  hiByte (effectiveAddress m s) != hiByte (baseAddress m s)

/-- The two operand bytes of an absolute mode: `lo <- Fetch(); hi <- Fetch()` (R119). -/
def State.fetchWord (s : State) (w : Word) : State := (s.fetchByte (loByte w)).fetchByte (hiByte w)

/-- The two bus reads of a zero-page pointer (R121, R122). -/
def State.pointerCycles (s : State) (p : Byte) : State :=
  (s.readCycle (zext16 p)).readCycle (zext16 (p + 1))

/-- The address cycles of a memory mode after the opcode fetch: operand bytes, the dummy read of the unindexed zero-page
address, pointer bytes (R117 to R122). -/
def addressCycles (m : MemOperand) (s : State) : State :=
  match m with
  | .zp ad => s.fetchByte ad
  | .zpx ad | .zpy ad => (s.fetchByte ad).dummyRead (zext16 ad)
  | .abs w | .abx w | .aby w => s.fetchWord w
  | .izx ad => ((s.fetchByte ad).dummyRead (zext16 ad)).pointerCycles (ad + s.x)
  | .izy ad => (s.fetchByte ad).pointerCycles ad

/-- What resolving a memory mode gives (R110): the Execution Context of 10_state.md R40, local to one instruction. -/
structure Resolved where
  /-- The state after the mode's address cycles. -/
  st : State
  /-- The address before a 16-bit index is added. -/
  base : Word
  /-- The effective address. -/
  ea : Word
  /-- The address whose high byte is not yet corrected. -/
  unfixed : Word
  /-- `page_crossed`. -/
  crossed : Bool
  /-- Whether the mode has the cycle that reads `unfixed`: abx, aby, izy. -/
  fixup : Bool
deriving DecidableEq, Repr

/-- The resolver on the modes with a memory operand (R110, R117 to R122). -/
def resolve (m : MemOperand) (s : State) : Resolved where
  st := addressCycles m s
  base := baseAddress m s
  ea := effectiveAddress m s
  unfixed := unfixedAddress m s
  crossed := pageCrossed m s
  fixup := (index16 m s).isSome

/-- The operand cycles of the read class (R112, R117 to R122): when the page is crossed, the read at the uncorrected address
comes first. -/
def Resolved.readOperand (r : Resolved) : Byte × State :=
  let s := if r.crossed then r.st.dummyRead r.unfixed else r.st
  s.memRead r.ea

/-- The cycle that reads the uncorrected address in a write or read-modify-write of abx, aby and izy, crossed or not (R120,
R122). -/
def Resolved.fixupRead (r : Resolved) : State :=
  if r.fixup then r.st.dummyRead r.unfixed else r.st

/-- The operand cycles of the write class (R112). -/
def Resolved.writeOperand (r : Resolved) (v : Byte) : State := r.fixupRead.memWrite r.ea v

/-- `RMW(EA, f)` (R112): read, write the unmodified value back, operate, write the result. `f` may also write registers
and flags. -/
def Resolved.modifyOperand (r : Resolved) (f : Byte → State → Byte × State) : State :=
  let v := r.fixupRead.memRead r.ea
  let s := v.2.memWrite r.ea v.1
  let w := f v.1 s
  w.2.memWrite r.ea w.1

/-! ## The shapes of instructions -/

/-- Implied (R114), 2 cycles: a dummy read at PC, then the operation on registers. -/
def runImplied (opcode : Byte) (f : State → State) (s : State) : Result State :=
  let s₁ := s.begin opcode
  .next ((f (s₁.dummyRead s₁.pc)).finish opcode s.flags.i false 0)

/-- Immediate (R116), 2 cycles: the operand is the fetched byte. -/
def runImmediate (opcode : Byte) (v : Byte) (f : Byte → State → State) (s : State) : Result State :=
  .next ((f v ((s.begin opcode).fetchByte v)).finish opcode s.flags.i false 0)

/-- The read class on a memory operand (R112). -/
def runRead (opcode : Byte) (m : MemOperand) (f : Byte → State → State) (s : State) : Result State :=
  let r := resolve m (s.begin opcode)
  let v := r.readOperand
  .next ((f v.1 v.2).finish opcode s.flags.i r.crossed 0)

/-- The write class on a memory operand (R112): the value is computed from the registers. -/
def runWrite (opcode : Byte) (m : MemOperand) (value : State → Byte) (s : State) : Result State :=
  let r := resolve m (s.begin opcode)
  .next ((r.writeOperand (value s)).finish opcode s.flags.i r.crossed 0)

/-- The read-modify-write class on a memory operand (R112). -/
def runModify (opcode : Byte) (m : MemOperand) (f : Byte → State → Byte × State) (s : State) : Result State :=
  let r := resolve m (s.begin opcode)
  .next ((r.modifyOperand f).finish opcode s.flags.i r.crossed 0)

/-- Accumulator (R115), 2 cycles: `A <- f(A)` after a dummy read at PC. -/
def runAccumulator (opcode : Byte) (f : Byte → State → Byte × State) (s : State) : Result State :=
  runImplied opcode (fun t => let w := f t.a t; w.2.setA w.1) s

/-- `Branch(cond)` (44_control.md R254) on a relative operand (40_addressing.md R124): 2 cycles not taken, 3 taken, 4 taken to
another page than the next instruction's (70_reset_and_hazards.md R458). -/
def runBranch (opcode : Byte) (off : Byte) (cond : Flags → Bool) (s : State) : Result State :=
  let s₁ := (s.begin opcode).fetchByte off
  let next := s₁.pc
  let target := next + sext16 off
  let crossed := hiByte target != hiByte next
  if cond s.flags then
    let s₂ := s₁.dummyRead next
    let s₃ := if crossed then s₂.dummyRead (wordOf (hiByte next) (loByte target)) else s₂
    .next ((s₃.setPc target).finish opcode s.flags.i crossed (if crossed then 2 else 1))
  else
    .next (s₁.finish opcode s.flags.i crossed 0)

/-- The store of TAS, AHX, SHX and SHY (46_undocumented.md R321): `src & (H + 1)`, where H is the high byte of the address
before indexing; on a page cross the stored value replaces the high byte of the address. `pre` runs first (TAS loads SP). -/
def runHighStore (opcode : Byte) (m : MemOperand) (src : State → Byte) (pre : State → State) (s : State) :
    Result State :=
  let r := resolve m (s.begin opcode)
  let value := src s &&& (hiByte r.base + 1)
  let addr := if r.crossed then wordOf value (loByte r.ea) else r.ea
  .next (((pre r.fixupRead).memWrite addr value).finish opcode s.flags.i r.crossed 0)

end Sys2Proof.Machine
end

