-- ==== Sys2Proof/Machine/Boundary.lean ====
section
/-! DEFINITION. The step boundary (spec 10_state.md R42, first part; 60_exceptions.md R406 to R410): the host's inputs, the NMI
edge, what a step does, and the bytes of the instruction it fetches. -/

namespace Sys2Proof.Machine

/-- Takes the next host call from the queue (log 4): a `step` call sets the input levels, a `reset` call leaves them; with
no call queued the levels stay. -/
def State.takeHostCall (s : State) : State :=
  match s.host with
  | [] => s
  | .reset :: rest => { s with host := rest }
  | .levels irq nmi :: rest => { s with host := rest, irqLine := irq, nmiLine := nmi }

/-- Whether the host's next call is a reset (R450). -/
def State.resetRequested (s : State) : Bool := s.host.head? == some .reset

/-- The NMI edge detection (10_state.md R42, 60_exceptions.md R408). -/
def State.latchNmi (s : State) : State :=
  { s with nmiPending := s.nmiPending || (s.nmiLine && !s.nmiPrev), nmiPrev := s.nmiLine }

/-- The NMI entry sequence clears `nmi_pending` (10_state.md R42). -/
def State.acknowledgeNmi (s : State) : State := { s with nmiPending := false }

/-- What a step does at its boundary. -/
inductive Boundary where
  /-- The host's reset call. -/
  | reset
  /-- Nothing: the core is halted. -/
  | halted
  /-- The NMI entry sequence. -/
  | nmi
  /-- The IRQ entry sequence. -/
  | irq
  /-- One whole instruction. -/
  | instruction
deriving DecidableEq, Repr

/-- The choice of R42 in the order of R410 (reset, then NMI, then IRQ, then the instruction at PC), with the state in which
the choice is carried out. -/
def State.boundary (s : State) : Boundary × State :=
  let h := s.takeHostCall
  if s.resetRequested then (.reset, h)
  else if h.halted then (.halted, h)
  else
    let n := h.latchNmi
    if n.pollOk && n.nmiPending then (.nmi, n.acknowledgeNmi)
    else if n.pollOk && n.irqLine && !n.iPoll then (.irq, n)
    else (.instruction, n)

/-- The instruction at PC, decoded from the bytes the bus returns there (30_encoding.md R90, R93; 20_memory.md R76). -/
def State.fetchInstr (s : State) : Instr :=
  decodeBytes (s.peek s.pc) (s.peek (s.pc + 1)) (s.peek (s.pc + 2))

/-- The machine after power-on with any draws, on any platform (70_reset_and_hazards.md R453): the reset sequence from the
drawn state. -/
def powerUp (draws : PowerOn) (mem : Memory) (readOnly : List Region) (config : Config) : State :=
  (State.powerOn draws mem readOnly config).takeReset

/-- Whether a host call is a reset. -/
def HostEvent.isReset : HostEvent → Bool
  | .reset => true
  | .levels _ _ => false

/-- Lays three bytes at PC whatever the bus would say to a write (a load from outside the machine, log 14), and clears what
would keep the next step from fetching them: a halted core, a queued reset, an interrupt (log 15). -/
def State.placeBytes (s : State) (b0 b1 b2 : Byte) : State :=
  { s with
    mem := Memory.write (Memory.write (Memory.write s.mem s.pc.toNat b0) (s.pc + 1).toNat b1) (s.pc + 2).toNat b2
    host := s.host.dropWhile HostEvent.isReset
    halted := false
    pollOk := false }

end Sys2Proof.Machine
end

