-- ==== Sys2Proof/Machine/Arith.lean ====
section
/-! DEFINITION. Add, subtract, logic and compare (spec 42_arith_logic.md R180 to R193; 46_undocumented.md R320 for SBC EB): one operation per mnemonic,
one meaning per opcode byte. ADC and SBC pass `decimalGuard` (R183). -/

namespace Sys2Proof.Machine

/-- ADC's operation (R184). -/
def opAdc (m : Byte) (s : State) : State :=
  let w := adcByte s.a m s.flags
  (s.setFlags w.2).setA w.1

/-- ADC (ad,X), opcode 61 (R184, R121). -/
def execAdcIzx (ad : Byte) (s : State) : Result State :=
  s.decimalGuard (runRead 0x61#8 (.izx ad) opAdc s)

/-- ADC ad, opcode 65 (R184, R117). -/
def execAdcZp (ad : Byte) (s : State) : Result State :=
  s.decimalGuard (runRead 0x65#8 (.zp ad) opAdc s)

/-- ADC #v, opcode 69 (R184, R116). -/
def execAdcImm (v : Byte) (s : State) : Result State :=
  s.decimalGuard (runImmediate 0x69#8 v opAdc s)

/-- ADC w, opcode 6D (R184, R119). -/
def execAdcAbs (w : Word) (s : State) : Result State :=
  s.decimalGuard (runRead 0x6D#8 (.abs w) opAdc s)

/-- ADC (ad),Y, opcode 71 (R184, R122). -/
def execAdcIzy (ad : Byte) (s : State) : Result State :=
  s.decimalGuard (runRead 0x71#8 (.izy ad) opAdc s)

/-- ADC ad,X, opcode 75 (R184, R118). -/
def execAdcZpx (ad : Byte) (s : State) : Result State :=
  s.decimalGuard (runRead 0x75#8 (.zpx ad) opAdc s)

/-- ADC w,Y, opcode 79 (R184, R120). -/
def execAdcAby (w : Word) (s : State) : Result State :=
  s.decimalGuard (runRead 0x79#8 (.aby w) opAdc s)

/-- ADC w,X, opcode 7D (R184, R120). -/
def execAdcAbx (w : Word) (s : State) : Result State :=
  s.decimalGuard (runRead 0x7D#8 (.abx w) opAdc s)

/-- SBC's operation (R185, R320). -/
def opSbc (m : Byte) (s : State) : State :=
  let w := sbcByte s.a m s.flags
  (s.setFlags w.2).setA w.1

/-- SBC (ad,X), opcode E1 (R185, R121). -/
def execSbcIzx (ad : Byte) (s : State) : Result State :=
  s.decimalGuard (runRead 0xE1#8 (.izx ad) opSbc s)

/-- SBC ad, opcode E5 (R185, R117). -/
def execSbcZp (ad : Byte) (s : State) : Result State :=
  s.decimalGuard (runRead 0xE5#8 (.zp ad) opSbc s)

/-- SBC #v, opcode E9 (R185, R116). -/
def execSbcImm (v : Byte) (s : State) : Result State :=
  s.decimalGuard (runImmediate 0xE9#8 v opSbc s)

/-- SBC #v, opcode EB (R320, R116). -/
def execSbcImmEB (v : Byte) (s : State) : Result State :=
  s.decimalGuard (runImmediate 0xEB#8 v opSbc s)

/-- SBC w, opcode ED (R185, R119). -/
def execSbcAbs (w : Word) (s : State) : Result State :=
  s.decimalGuard (runRead 0xED#8 (.abs w) opSbc s)

/-- SBC (ad),Y, opcode F1 (R185, R122). -/
def execSbcIzy (ad : Byte) (s : State) : Result State :=
  s.decimalGuard (runRead 0xF1#8 (.izy ad) opSbc s)

/-- SBC ad,X, opcode F5 (R185, R118). -/
def execSbcZpx (ad : Byte) (s : State) : Result State :=
  s.decimalGuard (runRead 0xF5#8 (.zpx ad) opSbc s)

/-- SBC w,Y, opcode F9 (R185, R120). -/
def execSbcAby (w : Word) (s : State) : Result State :=
  s.decimalGuard (runRead 0xF9#8 (.aby w) opSbc s)

/-- SBC w,X, opcode FD (R185, R120). -/
def execSbcAbx (w : Word) (s : State) : Result State :=
  s.decimalGuard (runRead 0xFD#8 (.abx w) opSbc s)

/-- AND's operation (R186). -/
def opAnd (m : Byte) (s : State) : State := (s.setA (s.a &&& m)).setNZ (s.a &&& m)

/-- AND (ad,X), opcode 21 (R186, R121). -/
def execAndIzx (ad : Byte) (s : State) : Result State :=
  runRead 0x21#8 (.izx ad) opAnd s

/-- AND ad, opcode 25 (R186, R117). -/
def execAndZp (ad : Byte) (s : State) : Result State :=
  runRead 0x25#8 (.zp ad) opAnd s

/-- AND #v, opcode 29 (R186, R116). -/
def execAndImm (v : Byte) (s : State) : Result State :=
  runImmediate 0x29#8 v opAnd s

/-- AND w, opcode 2D (R186, R119). -/
def execAndAbs (w : Word) (s : State) : Result State :=
  runRead 0x2D#8 (.abs w) opAnd s

/-- AND (ad),Y, opcode 31 (R186, R122). -/
def execAndIzy (ad : Byte) (s : State) : Result State :=
  runRead 0x31#8 (.izy ad) opAnd s

/-- AND ad,X, opcode 35 (R186, R118). -/
def execAndZpx (ad : Byte) (s : State) : Result State :=
  runRead 0x35#8 (.zpx ad) opAnd s

/-- AND w,Y, opcode 39 (R186, R120). -/
def execAndAby (w : Word) (s : State) : Result State :=
  runRead 0x39#8 (.aby w) opAnd s

/-- AND w,X, opcode 3D (R186, R120). -/
def execAndAbx (w : Word) (s : State) : Result State :=
  runRead 0x3D#8 (.abx w) opAnd s

/-- ORA's operation (R187). -/
def opOra (m : Byte) (s : State) : State := (s.setA (s.a ||| m)).setNZ (s.a ||| m)

/-- ORA (ad,X), opcode 01 (R187, R121). -/
def execOraIzx (ad : Byte) (s : State) : Result State :=
  runRead 0x01#8 (.izx ad) opOra s

/-- ORA ad, opcode 05 (R187, R117). -/
def execOraZp (ad : Byte) (s : State) : Result State :=
  runRead 0x05#8 (.zp ad) opOra s

/-- ORA #v, opcode 09 (R187, R116). -/
def execOraImm (v : Byte) (s : State) : Result State :=
  runImmediate 0x09#8 v opOra s

/-- ORA w, opcode 0D (R187, R119). -/
def execOraAbs (w : Word) (s : State) : Result State :=
  runRead 0x0D#8 (.abs w) opOra s

/-- ORA (ad),Y, opcode 11 (R187, R122). -/
def execOraIzy (ad : Byte) (s : State) : Result State :=
  runRead 0x11#8 (.izy ad) opOra s

/-- ORA ad,X, opcode 15 (R187, R118). -/
def execOraZpx (ad : Byte) (s : State) : Result State :=
  runRead 0x15#8 (.zpx ad) opOra s

/-- ORA w,Y, opcode 19 (R187, R120). -/
def execOraAby (w : Word) (s : State) : Result State :=
  runRead 0x19#8 (.aby w) opOra s

/-- ORA w,X, opcode 1D (R187, R120). -/
def execOraAbx (w : Word) (s : State) : Result State :=
  runRead 0x1D#8 (.abx w) opOra s

/-- EOR's operation (R188). -/
def opEor (m : Byte) (s : State) : State := (s.setA (s.a ^^^ m)).setNZ (s.a ^^^ m)

/-- EOR (ad,X), opcode 41 (R188, R121). -/
def execEorIzx (ad : Byte) (s : State) : Result State :=
  runRead 0x41#8 (.izx ad) opEor s

/-- EOR ad, opcode 45 (R188, R117). -/
def execEorZp (ad : Byte) (s : State) : Result State :=
  runRead 0x45#8 (.zp ad) opEor s

/-- EOR #v, opcode 49 (R188, R116). -/
def execEorImm (v : Byte) (s : State) : Result State :=
  runImmediate 0x49#8 v opEor s

/-- EOR w, opcode 4D (R188, R119). -/
def execEorAbs (w : Word) (s : State) : Result State :=
  runRead 0x4D#8 (.abs w) opEor s

/-- EOR (ad),Y, opcode 51 (R188, R122). -/
def execEorIzy (ad : Byte) (s : State) : Result State :=
  runRead 0x51#8 (.izy ad) opEor s

/-- EOR ad,X, opcode 55 (R188, R118). -/
def execEorZpx (ad : Byte) (s : State) : Result State :=
  runRead 0x55#8 (.zpx ad) opEor s

/-- EOR w,Y, opcode 59 (R188, R120). -/
def execEorAby (w : Word) (s : State) : Result State :=
  runRead 0x59#8 (.aby w) opEor s

/-- EOR w,X, opcode 5D (R188, R120). -/
def execEorAbx (w : Word) (s : State) : Result State :=
  runRead 0x5D#8 (.abx w) opEor s

/-- BIT's operation (R189). -/
def opBit (m : Byte) (s : State) : State := s.setFlags (bitTest s.a m s.flags)

/-- BIT ad, opcode 24 (R189, R117). -/
def execBitZp (ad : Byte) (s : State) : Result State :=
  runRead 0x24#8 (.zp ad) opBit s

/-- BIT w, opcode 2C (R189, R119). -/
def execBitAbs (w : Word) (s : State) : Result State :=
  runRead 0x2C#8 (.abs w) opBit s

/-- CMP's operation (R191). -/
def opCmp (m : Byte) (s : State) : State := s.setFlags (compareFlags s.a m s.flags)

/-- CMP (ad,X), opcode C1 (R191, R121). -/
def execCmpIzx (ad : Byte) (s : State) : Result State :=
  runRead 0xC1#8 (.izx ad) opCmp s

/-- CMP ad, opcode C5 (R191, R117). -/
def execCmpZp (ad : Byte) (s : State) : Result State :=
  runRead 0xC5#8 (.zp ad) opCmp s

/-- CMP #v, opcode C9 (R191, R116). -/
def execCmpImm (v : Byte) (s : State) : Result State :=
  runImmediate 0xC9#8 v opCmp s

/-- CMP w, opcode CD (R191, R119). -/
def execCmpAbs (w : Word) (s : State) : Result State :=
  runRead 0xCD#8 (.abs w) opCmp s

/-- CMP (ad),Y, opcode D1 (R191, R122). -/
def execCmpIzy (ad : Byte) (s : State) : Result State :=
  runRead 0xD1#8 (.izy ad) opCmp s

/-- CMP ad,X, opcode D5 (R191, R118). -/
def execCmpZpx (ad : Byte) (s : State) : Result State :=
  runRead 0xD5#8 (.zpx ad) opCmp s

/-- CMP w,Y, opcode D9 (R191, R120). -/
def execCmpAby (w : Word) (s : State) : Result State :=
  runRead 0xD9#8 (.aby w) opCmp s

/-- CMP w,X, opcode DD (R191, R120). -/
def execCmpAbx (w : Word) (s : State) : Result State :=
  runRead 0xDD#8 (.abx w) opCmp s

/-- CPX's operation (R192). -/
def opCpx (m : Byte) (s : State) : State := s.setFlags (compareFlags s.x m s.flags)

/-- CPX #v, opcode E0 (R192, R116). -/
def execCpxImm (v : Byte) (s : State) : Result State :=
  runImmediate 0xE0#8 v opCpx s

/-- CPX ad, opcode E4 (R192, R117). -/
def execCpxZp (ad : Byte) (s : State) : Result State :=
  runRead 0xE4#8 (.zp ad) opCpx s

/-- CPX w, opcode EC (R192, R119). -/
def execCpxAbs (w : Word) (s : State) : Result State :=
  runRead 0xEC#8 (.abs w) opCpx s

/-- CPY's operation (R193). -/
def opCpy (m : Byte) (s : State) : State := s.setFlags (compareFlags s.y m s.flags)

/-- CPY #v, opcode C0 (R193, R116). -/
def execCpyImm (v : Byte) (s : State) : Result State :=
  runImmediate 0xC0#8 v opCpy s

/-- CPY ad, opcode C4 (R193, R117). -/
def execCpyZp (ad : Byte) (s : State) : Result State :=
  runRead 0xC4#8 (.zp ad) opCpy s

/-- CPY w, opcode CC (R193, R119). -/
def execCpyAbs (w : Word) (s : State) : Result State :=
  runRead 0xCC#8 (.abs w) opCpy s

end Sys2Proof.Machine
end

