-- ==== Sys2Proof/Machine/Control.lean ====
section
/-! DEFINITION. Jumps, calls, branches, BRK and RTI (spec 44_control.md R250 to R264): one meaning per opcode byte. -/

namespace Sys2Proof.Machine

/-- The pointer reads of `JMP (w)` and the jump (40_addressing.md R123, R251): the pointer's low byte wraps in its page. -/
def jumpIndirect (w : Word) (s : State) : State :=
  let lo := s.memRead w
  let hi := lo.2.memRead (wordOf (hiByte w) (loByte w + 1))
  hi.2.setPc (wordOf hi.1 lo.1)

/-- JMP w, opcode 4C (R250). -/
def execJmpAbs (w : Word) (s : State) : Result State :=
  .next ((((s.begin 0x4C#8).fetchWord w).setPc w).finish 0x4C#8 s.flags.i false 0)

/-- JMP (w), opcode 6C (R251, R123). -/
def execJmpInd (w : Word) (s : State) : Result State :=
  .next ((jumpIndirect w ((s.begin 0x6C#8).fetchWord w)).finish 0x6C#8 s.flags.i false 0)

/-- JSR after its opcode fetch (R252): the target's low byte, a dummy stack read, the address of JSR's last byte pushed high
byte first, then the target's high byte read from the bus after the pushes (20_memory.md R76; log 10). -/
def callSubroutine (lo : Byte) (s : State) : State :=
  let s₁ := s.fetchByte lo
  let s₂ := (s₁.dummyRead (stackAddr s₁.sp)).push (hiByte s₁.pc)
  let s₃ := s₂.push (loByte s₂.pc)
  let hi := s₃.memRead s₃.pc
  hi.2.setPc (wordOf hi.1 lo)

/-- JSR w, opcode 20 (R252). -/
def execJsr (w : Word) (s : State) : Result State :=
  .next ((callSubroutine (loByte w) (s.begin 0x20#8)).finish 0x20#8 s.flags.i false 0)

/-- RTS from its third cycle (R253): the pulled word, a dummy read there, plus one. -/
def opRts (s : State) : State :=
  let lo := (s.dummyRead (stackAddr s.sp)).pull
  let hi := lo.2.pull
  let s₁ := hi.2.setPc (wordOf hi.1 lo.1)
  (s₁.dummyRead s₁.pc).setPc (s₁.pc + 1)

/-- RTS, opcode 60 (R253). -/
def execRts (s : State) : Result State :=
  runImplied 0x60#8 opRts s

/-! The branches (R254 to R262): each on the flag its rule names. -/

/-- BPL off, opcode 10 (R255, R124). -/
def execBpl (off : Byte) (s : State) : Result State :=
  runBranch 0x10#8 off (fun f => !f.n) s

/-- BMI off, opcode 30 (R256, R124). -/
def execBmi (off : Byte) (s : State) : Result State :=
  runBranch 0x30#8 off Flags.n s

/-- BVC off, opcode 50 (R257, R124). -/
def execBvc (off : Byte) (s : State) : Result State :=
  runBranch 0x50#8 off (fun f => !f.v) s

/-- BVS off, opcode 70 (R258, R124). -/
def execBvs (off : Byte) (s : State) : Result State :=
  runBranch 0x70#8 off Flags.v s

/-- BCC off, opcode 90 (R259, R124). -/
def execBcc (off : Byte) (s : State) : Result State :=
  runBranch 0x90#8 off (fun f => !f.c) s

/-- BCS off, opcode B0 (R260, R124). -/
def execBcs (off : Byte) (s : State) : Result State :=
  runBranch 0xB0#8 off Flags.c s

/-- BNE off, opcode D0 (R261, R124). -/
def execBne (off : Byte) (s : State) : Result State :=
  runBranch 0xD0#8 off (fun f => !f.z) s

/-- BEQ off, opcode F0 (R262, R124). -/
def execBeq (off : Byte) (s : State) : Result State :=
  runBranch 0xF0#8 off Flags.z s

/-! BRK (R263): the opcode, the padding byte, then the exception with B = 1 through the IRQ/BRK vector. -/

/-- BRK, opcode 00 (R263). -/
def execBrk (s : State) : Result State :=
  .next (((s.begin 0x00#8).fetchNext.takeException true vectorIrq).finish 0x00#8 s.flags.i false 0)

/-- RTI from its third cycle (R264). -/
def opRti (s : State) : State := (s.dummyRead (stackAddr s.sp)).returnFromException

/-- RTI, opcode 40 (R264). -/
def execRti (s : State) : Result State :=
  runImplied 0x40#8 opRti s

end Sys2Proof.Machine
end

