-- ==== Sys2Proof/Machine/FlagOps.lean ====
section
/-! DEFINITION. Flag operations, no-operations and halt (spec 45_flags_nop_jam.md R280 to R290): one meaning per opcode byte. -/

namespace Sys2Proof.Machine

/-- CLC's operation (R280): exactly one flag. -/
def opClc (s : State) : State := s.setFlags { s.flags with c := false }

/-- CLC, opcode 18 (R280, R114). -/
def execClc (s : State) : Result State :=
  runImplied 0x18#8 opClc s

/-- SEC's operation (R281): exactly one flag. -/
def opSec (s : State) : State := s.setFlags { s.flags with c := true }

/-- SEC, opcode 38 (R281, R114). -/
def execSec (s : State) : Result State :=
  runImplied 0x38#8 opSec s

/-- CLI's operation (R282): exactly one flag. -/
def opCli (s : State) : State := s.setFlags { s.flags with i := false }

/-- CLI, opcode 58 (R282, R114). -/
def execCli (s : State) : Result State :=
  runImplied 0x58#8 opCli s

/-- SEI's operation (R283): exactly one flag. -/
def opSei (s : State) : State := s.setFlags { s.flags with i := true }

/-- SEI, opcode 78 (R283, R114). -/
def execSei (s : State) : Result State :=
  runImplied 0x78#8 opSei s

/-- CLD's operation (R284): exactly one flag. -/
def opCld (s : State) : State := s.setFlags { s.flags with d := false }

/-- CLD, opcode D8 (R284, R114). -/
def execCld (s : State) : Result State :=
  runImplied 0xD8#8 opCld s

/-- SED's operation (R285): exactly one flag. -/
def opSed (s : State) : State := s.setFlags { s.flags with d := true }

/-- SED, opcode F8 (R285, R114). -/
def execSed (s : State) : Result State :=
  runImplied 0xF8#8 opSed s

/-- CLV's operation (R286): exactly one flag. -/
def opClv (s : State) : State := s.setFlags { s.flags with v := false }

/-- CLV, opcode B8 (R286, R114). -/
def execClv (s : State) : Result State :=
  runImplied 0xB8#8 opClv s

/-- NOP's operation on an operand: it is read and ignored (R288, R289). -/
def opNop (_ : Byte) (s : State) : State := s

/-- NOP ad, opcode 04 (R289, R117). -/
def execNopZp04 (ad : Byte) (s : State) : Result State :=
  runRead 0x04#8 (.zp ad) opNop s

/-- NOP w, opcode 0C (R289, R119). -/
def execNopAbs (w : Word) (s : State) : Result State :=
  runRead 0x0C#8 (.abs w) opNop s

/-- NOP ad,X, opcode 14 (R289, R118). -/
def execNopZpx14 (ad : Byte) (s : State) : Result State :=
  runRead 0x14#8 (.zpx ad) opNop s

/-- NOP, opcode 1A (R287, R114). -/
def execNopImp1A (s : State) : Result State :=
  runImplied 0x1A#8 id s

/-- NOP w,X, opcode 1C (R289, R120). -/
def execNopAbx1C (w : Word) (s : State) : Result State :=
  runRead 0x1C#8 (.abx w) opNop s

/-- NOP ad,X, opcode 34 (R289, R118). -/
def execNopZpx34 (ad : Byte) (s : State) : Result State :=
  runRead 0x34#8 (.zpx ad) opNop s

/-- NOP, opcode 3A (R287, R114). -/
def execNopImp3A (s : State) : Result State :=
  runImplied 0x3A#8 id s

/-- NOP w,X, opcode 3C (R289, R120). -/
def execNopAbx3C (w : Word) (s : State) : Result State :=
  runRead 0x3C#8 (.abx w) opNop s

/-- NOP ad, opcode 44 (R289, R117). -/
def execNopZp44 (ad : Byte) (s : State) : Result State :=
  runRead 0x44#8 (.zp ad) opNop s

/-- NOP ad,X, opcode 54 (R289, R118). -/
def execNopZpx54 (ad : Byte) (s : State) : Result State :=
  runRead 0x54#8 (.zpx ad) opNop s

/-- NOP, opcode 5A (R287, R114). -/
def execNopImp5A (s : State) : Result State :=
  runImplied 0x5A#8 id s

/-- NOP w,X, opcode 5C (R289, R120). -/
def execNopAbx5C (w : Word) (s : State) : Result State :=
  runRead 0x5C#8 (.abx w) opNop s

/-- NOP ad, opcode 64 (R289, R117). -/
def execNopZp64 (ad : Byte) (s : State) : Result State :=
  runRead 0x64#8 (.zp ad) opNop s

/-- NOP ad,X, opcode 74 (R289, R118). -/
def execNopZpx74 (ad : Byte) (s : State) : Result State :=
  runRead 0x74#8 (.zpx ad) opNop s

/-- NOP, opcode 7A (R287, R114). -/
def execNopImp7A (s : State) : Result State :=
  runImplied 0x7A#8 id s

/-- NOP w,X, opcode 7C (R289, R120). -/
def execNopAbx7C (w : Word) (s : State) : Result State :=
  runRead 0x7C#8 (.abx w) opNop s

/-- NOP #v, opcode 80 (R288, R116). -/
def execNopImm80 (v : Byte) (s : State) : Result State :=
  runImmediate 0x80#8 v opNop s

/-- NOP #v, opcode 82 (R288, R116). -/
def execNopImm82 (v : Byte) (s : State) : Result State :=
  runImmediate 0x82#8 v opNop s

/-- NOP #v, opcode 89 (R288, R116). -/
def execNopImm89 (v : Byte) (s : State) : Result State :=
  runImmediate 0x89#8 v opNop s

/-- NOP #v, opcode C2 (R288, R116). -/
def execNopImmC2 (v : Byte) (s : State) : Result State :=
  runImmediate 0xC2#8 v opNop s

/-- NOP ad,X, opcode D4 (R289, R118). -/
def execNopZpxD4 (ad : Byte) (s : State) : Result State :=
  runRead 0xD4#8 (.zpx ad) opNop s

/-- NOP, opcode DA (R287, R114). -/
def execNopImpDA (s : State) : Result State :=
  runImplied 0xDA#8 id s

/-- NOP w,X, opcode DC (R289, R120). -/
def execNopAbxDC (w : Word) (s : State) : Result State :=
  runRead 0xDC#8 (.abx w) opNop s

/-- NOP #v, opcode E2 (R288, R116). -/
def execNopImmE2 (v : Byte) (s : State) : Result State :=
  runImmediate 0xE2#8 v opNop s

/-- NOP, opcode EA (R287, R114). -/
def execNopImp (s : State) : Result State :=
  runImplied 0xEA#8 id s

/-- NOP ad,X, opcode F4 (R289, R118). -/
def execNopZpxF4 (ad : Byte) (s : State) : Result State :=
  runRead 0xF4#8 (.zpx ad) opNop s

/-- NOP, opcode FA (R287, R114). -/
def execNopImpFA (s : State) : Result State :=
  runImplied 0xFA#8 id s

/-- NOP w,X, opcode FC (R289, R120). -/
def execNopAbxFC (w : Word) (s : State) : Result State :=
  runRead 0xFC#8 (.abx w) opNop s

/-! JAM (R290): the opcode fetch is the last bus access; the core halts. -/

/-- JAM, opcode 02 (R290). -/
def execJam02 (s : State) : Result State :=
  .next ((s.begin 0x02#8).halt 0x02#8)

/-- JAM, opcode 12 (R290). -/
def execJam12 (s : State) : Result State :=
  .next ((s.begin 0x12#8).halt 0x12#8)

/-- JAM, opcode 22 (R290). -/
def execJam22 (s : State) : Result State :=
  .next ((s.begin 0x22#8).halt 0x22#8)

/-- JAM, opcode 32 (R290). -/
def execJam32 (s : State) : Result State :=
  .next ((s.begin 0x32#8).halt 0x32#8)

/-- JAM, opcode 42 (R290). -/
def execJam42 (s : State) : Result State :=
  .next ((s.begin 0x42#8).halt 0x42#8)

/-- JAM, opcode 52 (R290). -/
def execJam52 (s : State) : Result State :=
  .next ((s.begin 0x52#8).halt 0x52#8)

/-- JAM, opcode 62 (R290). -/
def execJam62 (s : State) : Result State :=
  .next ((s.begin 0x62#8).halt 0x62#8)

/-- JAM, opcode 72 (R290). -/
def execJam72 (s : State) : Result State :=
  .next ((s.begin 0x72#8).halt 0x72#8)

/-- JAM, opcode 92 (R290). -/
def execJam92 (s : State) : Result State :=
  .next ((s.begin 0x92#8).halt 0x92#8)

/-- JAM, opcode B2 (R290). -/
def execJamB2 (s : State) : Result State :=
  .next ((s.begin 0xB2#8).halt 0xB2#8)

/-- JAM, opcode D2 (R290). -/
def execJamD2 (s : State) : Result State :=
  .next ((s.begin 0xD2#8).halt 0xD2#8)

/-- JAM, opcode F2 (R290). -/
def execJamF2 (s : State) : Result State :=
  .next ((s.begin 0xF2#8).halt 0xF2#8)

end Sys2Proof.Machine
end

