-- ==== Sys2Proof/Machine/LoadStore.lean ====
section
/-! DEFINITION. Loads, stores, register transfers and stack transfers (spec 41_load_store_transfer.md R150 to R165): one operation per mnemonic, one
meaning per opcode byte. -/

namespace Sys2Proof.Machine

/-- LDA's operation (R150): A and N, Z from the operand. -/
def opLda (m : Byte) (s : State) : State := (s.setA m).setNZ m

/-- LDA (ad,X), opcode A1 (R150, R121). -/
def execLdaIzx (ad : Byte) (s : State) : Result State :=
  runRead 0xA1#8 (.izx ad) opLda s

/-- LDA ad, opcode A5 (R150, R117). -/
def execLdaZp (ad : Byte) (s : State) : Result State :=
  runRead 0xA5#8 (.zp ad) opLda s

/-- LDA #v, opcode A9 (R150, R116). -/
def execLdaImm (v : Byte) (s : State) : Result State :=
  runImmediate 0xA9#8 v opLda s

/-- LDA w, opcode AD (R150, R119). -/
def execLdaAbs (w : Word) (s : State) : Result State :=
  runRead 0xAD#8 (.abs w) opLda s

/-- LDA (ad),Y, opcode B1 (R150, R122). -/
def execLdaIzy (ad : Byte) (s : State) : Result State :=
  runRead 0xB1#8 (.izy ad) opLda s

/-- LDA ad,X, opcode B5 (R150, R118). -/
def execLdaZpx (ad : Byte) (s : State) : Result State :=
  runRead 0xB5#8 (.zpx ad) opLda s

/-- LDA w,Y, opcode B9 (R150, R120). -/
def execLdaAby (w : Word) (s : State) : Result State :=
  runRead 0xB9#8 (.aby w) opLda s

/-- LDA w,X, opcode BD (R150, R120). -/
def execLdaAbx (w : Word) (s : State) : Result State :=
  runRead 0xBD#8 (.abx w) opLda s

/-- LDX's operation (R151): X and N, Z from the operand. -/
def opLdx (m : Byte) (s : State) : State := (s.setX m).setNZ m

/-- LDX #v, opcode A2 (R151, R116). -/
def execLdxImm (v : Byte) (s : State) : Result State :=
  runImmediate 0xA2#8 v opLdx s

/-- LDX ad, opcode A6 (R151, R117). -/
def execLdxZp (ad : Byte) (s : State) : Result State :=
  runRead 0xA6#8 (.zp ad) opLdx s

/-- LDX w, opcode AE (R151, R119). -/
def execLdxAbs (w : Word) (s : State) : Result State :=
  runRead 0xAE#8 (.abs w) opLdx s

/-- LDX ad,Y, opcode B6 (R151, R118). -/
def execLdxZpy (ad : Byte) (s : State) : Result State :=
  runRead 0xB6#8 (.zpy ad) opLdx s

/-- LDX w,Y, opcode BE (R151, R120). -/
def execLdxAby (w : Word) (s : State) : Result State :=
  runRead 0xBE#8 (.aby w) opLdx s

/-- LDY's operation (R152): Y and N, Z from the operand. -/
def opLdy (m : Byte) (s : State) : State := (s.setY m).setNZ m

/-- LDY #v, opcode A0 (R152, R116). -/
def execLdyImm (v : Byte) (s : State) : Result State :=
  runImmediate 0xA0#8 v opLdy s

/-- LDY ad, opcode A4 (R152, R117). -/
def execLdyZp (ad : Byte) (s : State) : Result State :=
  runRead 0xA4#8 (.zp ad) opLdy s

/-- LDY w, opcode AC (R152, R119). -/
def execLdyAbs (w : Word) (s : State) : Result State :=
  runRead 0xAC#8 (.abs w) opLdy s

/-- LDY ad,X, opcode B4 (R152, R118). -/
def execLdyZpx (ad : Byte) (s : State) : Result State :=
  runRead 0xB4#8 (.zpx ad) opLdy s

/-- LDY w,X, opcode BC (R152, R120). -/
def execLdyAbx (w : Word) (s : State) : Result State :=
  runRead 0xBC#8 (.abx w) opLdy s

/-! The stores (R153 to R155): the register to the effective address, no flag. -/

/-- STA (ad,X), opcode 81 (R153, R121). -/
def execStaIzx (ad : Byte) (s : State) : Result State :=
  runWrite 0x81#8 (.izx ad) State.a s

/-- STA ad, opcode 85 (R153, R117). -/
def execStaZp (ad : Byte) (s : State) : Result State :=
  runWrite 0x85#8 (.zp ad) State.a s

/-- STA w, opcode 8D (R153, R119). -/
def execStaAbs (w : Word) (s : State) : Result State :=
  runWrite 0x8D#8 (.abs w) State.a s

/-- STA (ad),Y, opcode 91 (R153, R122). -/
def execStaIzy (ad : Byte) (s : State) : Result State :=
  runWrite 0x91#8 (.izy ad) State.a s

/-- STA ad,X, opcode 95 (R153, R118). -/
def execStaZpx (ad : Byte) (s : State) : Result State :=
  runWrite 0x95#8 (.zpx ad) State.a s

/-- STA w,Y, opcode 99 (R153, R120). -/
def execStaAby (w : Word) (s : State) : Result State :=
  runWrite 0x99#8 (.aby w) State.a s

/-- STA w,X, opcode 9D (R153, R120). -/
def execStaAbx (w : Word) (s : State) : Result State :=
  runWrite 0x9D#8 (.abx w) State.a s

/-- STX ad, opcode 86 (R154, R117). -/
def execStxZp (ad : Byte) (s : State) : Result State :=
  runWrite 0x86#8 (.zp ad) State.x s

/-- STX w, opcode 8E (R154, R119). -/
def execStxAbs (w : Word) (s : State) : Result State :=
  runWrite 0x8E#8 (.abs w) State.x s

/-- STX ad,Y, opcode 96 (R154, R118). -/
def execStxZpy (ad : Byte) (s : State) : Result State :=
  runWrite 0x96#8 (.zpy ad) State.x s

/-- STY ad, opcode 84 (R155, R117). -/
def execStyZp (ad : Byte) (s : State) : Result State :=
  runWrite 0x84#8 (.zp ad) State.y s

/-- STY w, opcode 8C (R155, R119). -/
def execStyAbs (w : Word) (s : State) : Result State :=
  runWrite 0x8C#8 (.abs w) State.y s

/-- STY ad,X, opcode 94 (R155, R118). -/
def execStyZpx (ad : Byte) (s : State) : Result State :=
  runWrite 0x94#8 (.zpx ad) State.y s

/-- TAX's operation (R156). -/
def opTax (s : State) : State := (s.setX s.a).setNZ s.a

/-- TAX, opcode AA (R156, R114). -/
def execTax (s : State) : Result State :=
  runImplied 0xAA#8 opTax s

/-- TAY's operation (R157). -/
def opTay (s : State) : State := (s.setY s.a).setNZ s.a

/-- TAY, opcode A8 (R157, R114). -/
def execTay (s : State) : Result State :=
  runImplied 0xA8#8 opTay s

/-- TXA's operation (R158). -/
def opTxa (s : State) : State := (s.setA s.x).setNZ s.x

/-- TXA, opcode 8A (R158, R114). -/
def execTxa (s : State) : Result State :=
  runImplied 0x8A#8 opTxa s

/-- TYA's operation (R159). -/
def opTya (s : State) : State := (s.setA s.y).setNZ s.y

/-- TYA, opcode 98 (R159, R114). -/
def execTya (s : State) : Result State :=
  runImplied 0x98#8 opTya s

/-- TSX's operation (R160). -/
def opTsx (s : State) : State := (s.setX s.sp).setNZ s.sp

/-- TSX, opcode BA (R160, R114). -/
def execTsx (s : State) : Result State :=
  runImplied 0xBA#8 opTsx s

/-- TXS's operation (R161): no flag. -/
def opTxs (s : State) : State := s.setSp s.x

/-- TXS, opcode 9A (R161, R114). -/
def execTxs (s : State) : Result State :=
  runImplied 0x9A#8 opTxs s

/-- PHA's third cycle (R162). -/
def opPha (s : State) : State := s.push s.a

/-- PHA, opcode 48 (R162). -/
def execPha (s : State) : Result State :=
  runImplied 0x48#8 opPha s

/-- PHP's third cycle (R163): P with bits 5 and 4 set. -/
def opPhp (s : State) : State := s.push (s.flags.pread true)

/-- PHP, opcode 08 (R163). -/
def execPhp (s : State) : Result State :=
  runImplied 0x08#8 opPhp s

/-- A pull by PLA and PLP: the stack byte at SP is read and discarded first (R164, R165, cycles 3 and 4). -/
def pullAfterDummy (s : State) : Byte × State := (s.dummyRead (stackAddr s.sp)).pull

/-- PLA's third and fourth cycle (R164). -/
def opPla (s : State) : State :=
  let p := pullAfterDummy s
  (p.2.setA p.1).setNZ p.1

/-- PLA, opcode 68 (R164). -/
def execPla (s : State) : Result State :=
  runImplied 0x68#8 opPla s

/-- PLP's third and fourth cycle (R165): the six latches, bits 5 and 4 discarded. -/
def opPlp (s : State) : State :=
  let p := pullAfterDummy s
  p.2.setFlags (Flags.pwrite p.1)

/-- PLP, opcode 28 (R165). -/
def execPlp (s : State) : Result State :=
  runImplied 0x28#8 opPlp s

end Sys2Proof.Machine
end

