-- ==== Sys2Proof/Machine/Shift.lean ====
section
/-! DEFINITION. Increment, decrement, shift and rotate (spec 43_incdec_shift.md R220 to R230): one operation per mnemonic, one meaning per opcode byte. -/

namespace Sys2Proof.Machine

/-- INC's operation on a byte (R220), modulo 256. -/
def opInc (v : Byte) (s : State) : Byte × State := (v + 1, s.setNZ (v + 1))

/-- INC ad, opcode E6 (R220, R117). -/
def execIncZp (ad : Byte) (s : State) : Result State :=
  runModify 0xE6#8 (.zp ad) opInc s

/-- INC w, opcode EE (R220, R119). -/
def execIncAbs (w : Word) (s : State) : Result State :=
  runModify 0xEE#8 (.abs w) opInc s

/-- INC ad,X, opcode F6 (R220, R118). -/
def execIncZpx (ad : Byte) (s : State) : Result State :=
  runModify 0xF6#8 (.zpx ad) opInc s

/-- INC w,X, opcode FE (R220, R120). -/
def execIncAbx (w : Word) (s : State) : Result State :=
  runModify 0xFE#8 (.abx w) opInc s

/-- DEC's operation on a byte (R221), modulo 256. -/
def opDec (v : Byte) (s : State) : Byte × State := (v - 1, s.setNZ (v - 1))

/-- DEC ad, opcode C6 (R221, R117). -/
def execDecZp (ad : Byte) (s : State) : Result State :=
  runModify 0xC6#8 (.zp ad) opDec s

/-- DEC w, opcode CE (R221, R119). -/
def execDecAbs (w : Word) (s : State) : Result State :=
  runModify 0xCE#8 (.abs w) opDec s

/-- DEC ad,X, opcode D6 (R221, R118). -/
def execDecZpx (ad : Byte) (s : State) : Result State :=
  runModify 0xD6#8 (.zpx ad) opDec s

/-- DEC w,X, opcode DE (R221, R120). -/
def execDecAbx (w : Word) (s : State) : Result State :=
  runModify 0xDE#8 (.abx w) opDec s

/-- INX's operation (R222), modulo 256. -/
def opInx (s : State) : State := (s.setX (s.x + 1)).setNZ (s.x + 1)

/-- INX, opcode E8 (R222, R114). -/
def execInx (s : State) : Result State :=
  runImplied 0xE8#8 opInx s

/-- INY's operation (R223), modulo 256. -/
def opIny (s : State) : State := (s.setY (s.y + 1)).setNZ (s.y + 1)

/-- INY, opcode C8 (R223, R114). -/
def execIny (s : State) : Result State :=
  runImplied 0xC8#8 opIny s

/-- DEX's operation (R224), modulo 256. -/
def opDex (s : State) : State := (s.setX (s.x - 1)).setNZ (s.x - 1)

/-- DEX, opcode CA (R224, R114). -/
def execDex (s : State) : Result State :=
  runImplied 0xCA#8 opDex s

/-- DEY's operation (R225), modulo 256. -/
def opDey (s : State) : State := (s.setY (s.y - 1)).setNZ (s.y - 1)

/-- DEY, opcode 88 (R225, R114). -/
def execDey (s : State) : Result State :=
  runImplied 0x88#8 opDey s

/-- ASL's operation on a byte (R226). -/
def opAsl (v : Byte) (s : State) : Byte × State :=
  let w := asl v s.flags
  (w.1, (s.setFlags w.2).setNZ w.1)

/-- ASL ad, opcode 06 (R226, R117). -/
def execAslZp (ad : Byte) (s : State) : Result State :=
  runModify 0x06#8 (.zp ad) opAsl s

/-- ASL A, opcode 0A (R226, R115). -/
def execAslAcc (s : State) : Result State :=
  runAccumulator 0x0A#8 opAsl s

/-- ASL w, opcode 0E (R226, R119). -/
def execAslAbs (w : Word) (s : State) : Result State :=
  runModify 0x0E#8 (.abs w) opAsl s

/-- ASL ad,X, opcode 16 (R226, R118). -/
def execAslZpx (ad : Byte) (s : State) : Result State :=
  runModify 0x16#8 (.zpx ad) opAsl s

/-- ASL w,X, opcode 1E (R226, R120). -/
def execAslAbx (w : Word) (s : State) : Result State :=
  runModify 0x1E#8 (.abx w) opAsl s

/-- LSR's operation on a byte (R227). -/
def opLsr (v : Byte) (s : State) : Byte × State :=
  let w := lsr v s.flags
  (w.1, (s.setFlags w.2).setNZ w.1)

/-- LSR ad, opcode 46 (R227, R117). -/
def execLsrZp (ad : Byte) (s : State) : Result State :=
  runModify 0x46#8 (.zp ad) opLsr s

/-- LSR A, opcode 4A (R227, R115). -/
def execLsrAcc (s : State) : Result State :=
  runAccumulator 0x4A#8 opLsr s

/-- LSR w, opcode 4E (R227, R119). -/
def execLsrAbs (w : Word) (s : State) : Result State :=
  runModify 0x4E#8 (.abs w) opLsr s

/-- LSR ad,X, opcode 56 (R227, R118). -/
def execLsrZpx (ad : Byte) (s : State) : Result State :=
  runModify 0x56#8 (.zpx ad) opLsr s

/-- LSR w,X, opcode 5E (R227, R120). -/
def execLsrAbx (w : Word) (s : State) : Result State :=
  runModify 0x5E#8 (.abx w) opLsr s

/-- ROL's operation on a byte (R228). -/
def opRol (v : Byte) (s : State) : Byte × State :=
  let w := rol v s.flags
  (w.1, (s.setFlags w.2).setNZ w.1)

/-- ROL ad, opcode 26 (R228, R117). -/
def execRolZp (ad : Byte) (s : State) : Result State :=
  runModify 0x26#8 (.zp ad) opRol s

/-- ROL A, opcode 2A (R228, R115). -/
def execRolAcc (s : State) : Result State :=
  runAccumulator 0x2A#8 opRol s

/-- ROL w, opcode 2E (R228, R119). -/
def execRolAbs (w : Word) (s : State) : Result State :=
  runModify 0x2E#8 (.abs w) opRol s

/-- ROL ad,X, opcode 36 (R228, R118). -/
def execRolZpx (ad : Byte) (s : State) : Result State :=
  runModify 0x36#8 (.zpx ad) opRol s

/-- ROL w,X, opcode 3E (R228, R120). -/
def execRolAbx (w : Word) (s : State) : Result State :=
  runModify 0x3E#8 (.abx w) opRol s

/-- ROR's operation on a byte (R229). -/
def opRor (v : Byte) (s : State) : Byte × State :=
  let w := ror v s.flags
  (w.1, (s.setFlags w.2).setNZ w.1)

/-- ROR ad, opcode 66 (R229, R117). -/
def execRorZp (ad : Byte) (s : State) : Result State :=
  runModify 0x66#8 (.zp ad) opRor s

/-- ROR A, opcode 6A (R229, R115). -/
def execRorAcc (s : State) : Result State :=
  runAccumulator 0x6A#8 opRor s

/-- ROR w, opcode 6E (R229, R119). -/
def execRorAbs (w : Word) (s : State) : Result State :=
  runModify 0x6E#8 (.abs w) opRor s

/-- ROR ad,X, opcode 76 (R229, R118). -/
def execRorZpx (ad : Byte) (s : State) : Result State :=
  runModify 0x76#8 (.zpx ad) opRor s

/-- ROR w,X, opcode 7E (R229, R120). -/
def execRorAbx (w : Word) (s : State) : Result State :=
  runModify 0x7E#8 (.abx w) opRor s

end Sys2Proof.Machine
end

