-- ==== Sys2Proof/Machine/Undocumented.lean ====
section
/-! DEFINITION. The undocumented opcodes (spec 46_undocumented.md R300 to R321) except NOP, JAM and SBC EB: one operation per mnemonic, one meaning
per opcode byte. RRA, ISC and ARR pass `decimalGuard` (R300, 42_arith_logic.md R183). -/

namespace Sys2Proof.Machine

/-- SLO's operation (R301): the shift, then A on the shifted byte. -/
def opSlo (v : Byte) (s : State) : Byte × State :=
  let w := asl v s.flags
  (w.1, ((s.setFlags w.2).setA (s.a ||| w.1)).setNZ (s.a ||| w.1))

/-- SLO (ad,X), opcode 03 (R301, R121). -/
def execSloIzx (ad : Byte) (s : State) : Result State :=
  runModify 0x03#8 (.izx ad) opSlo s

/-- SLO ad, opcode 07 (R301, R117). -/
def execSloZp (ad : Byte) (s : State) : Result State :=
  runModify 0x07#8 (.zp ad) opSlo s

/-- SLO w, opcode 0F (R301, R119). -/
def execSloAbs (w : Word) (s : State) : Result State :=
  runModify 0x0F#8 (.abs w) opSlo s

/-- SLO (ad),Y, opcode 13 (R301, R122). -/
def execSloIzy (ad : Byte) (s : State) : Result State :=
  runModify 0x13#8 (.izy ad) opSlo s

/-- SLO ad,X, opcode 17 (R301, R118). -/
def execSloZpx (ad : Byte) (s : State) : Result State :=
  runModify 0x17#8 (.zpx ad) opSlo s

/-- SLO w,Y, opcode 1B (R301, R120). -/
def execSloAby (w : Word) (s : State) : Result State :=
  runModify 0x1B#8 (.aby w) opSlo s

/-- SLO w,X, opcode 1F (R301, R120). -/
def execSloAbx (w : Word) (s : State) : Result State :=
  runModify 0x1F#8 (.abx w) opSlo s

/-- RLA's operation (R302): the shift, then A on the shifted byte. -/
def opRla (v : Byte) (s : State) : Byte × State :=
  let w := rol v s.flags
  (w.1, ((s.setFlags w.2).setA (s.a &&& w.1)).setNZ (s.a &&& w.1))

/-- RLA (ad,X), opcode 23 (R302, R121). -/
def execRlaIzx (ad : Byte) (s : State) : Result State :=
  runModify 0x23#8 (.izx ad) opRla s

/-- RLA ad, opcode 27 (R302, R117). -/
def execRlaZp (ad : Byte) (s : State) : Result State :=
  runModify 0x27#8 (.zp ad) opRla s

/-- RLA w, opcode 2F (R302, R119). -/
def execRlaAbs (w : Word) (s : State) : Result State :=
  runModify 0x2F#8 (.abs w) opRla s

/-- RLA (ad),Y, opcode 33 (R302, R122). -/
def execRlaIzy (ad : Byte) (s : State) : Result State :=
  runModify 0x33#8 (.izy ad) opRla s

/-- RLA ad,X, opcode 37 (R302, R118). -/
def execRlaZpx (ad : Byte) (s : State) : Result State :=
  runModify 0x37#8 (.zpx ad) opRla s

/-- RLA w,Y, opcode 3B (R302, R120). -/
def execRlaAby (w : Word) (s : State) : Result State :=
  runModify 0x3B#8 (.aby w) opRla s

/-- RLA w,X, opcode 3F (R302, R120). -/
def execRlaAbx (w : Word) (s : State) : Result State :=
  runModify 0x3F#8 (.abx w) opRla s

/-- SRE's operation (R303): the shift, then A on the shifted byte. -/
def opSre (v : Byte) (s : State) : Byte × State :=
  let w := lsr v s.flags
  (w.1, ((s.setFlags w.2).setA (s.a ^^^ w.1)).setNZ (s.a ^^^ w.1))

/-- SRE (ad,X), opcode 43 (R303, R121). -/
def execSreIzx (ad : Byte) (s : State) : Result State :=
  runModify 0x43#8 (.izx ad) opSre s

/-- SRE ad, opcode 47 (R303, R117). -/
def execSreZp (ad : Byte) (s : State) : Result State :=
  runModify 0x47#8 (.zp ad) opSre s

/-- SRE w, opcode 4F (R303, R119). -/
def execSreAbs (w : Word) (s : State) : Result State :=
  runModify 0x4F#8 (.abs w) opSre s

/-- SRE (ad),Y, opcode 53 (R303, R122). -/
def execSreIzy (ad : Byte) (s : State) : Result State :=
  runModify 0x53#8 (.izy ad) opSre s

/-- SRE ad,X, opcode 57 (R303, R118). -/
def execSreZpx (ad : Byte) (s : State) : Result State :=
  runModify 0x57#8 (.zpx ad) opSre s

/-- SRE w,Y, opcode 5B (R303, R120). -/
def execSreAby (w : Word) (s : State) : Result State :=
  runModify 0x5B#8 (.aby w) opSre s

/-- SRE w,X, opcode 5F (R303, R120). -/
def execSreAbx (w : Word) (s : State) : Result State :=
  runModify 0x5F#8 (.abx w) opSre s

/-- RRA's operation (R304): the carry of the rotate is the carry-in of the add. -/
def opRra (v : Byte) (s : State) : Byte × State :=
  let w := ror v s.flags
  let r := adcByte s.a w.1 w.2
  (w.1, (s.setFlags r.2).setA r.1)

/-- RRA (ad,X), opcode 63 (R304, R121). -/
def execRraIzx (ad : Byte) (s : State) : Result State :=
  s.decimalGuard (runModify 0x63#8 (.izx ad) opRra s)

/-- RRA ad, opcode 67 (R304, R117). -/
def execRraZp (ad : Byte) (s : State) : Result State :=
  s.decimalGuard (runModify 0x67#8 (.zp ad) opRra s)

/-- RRA w, opcode 6F (R304, R119). -/
def execRraAbs (w : Word) (s : State) : Result State :=
  s.decimalGuard (runModify 0x6F#8 (.abs w) opRra s)

/-- RRA (ad),Y, opcode 73 (R304, R122). -/
def execRraIzy (ad : Byte) (s : State) : Result State :=
  s.decimalGuard (runModify 0x73#8 (.izy ad) opRra s)

/-- RRA ad,X, opcode 77 (R304, R118). -/
def execRraZpx (ad : Byte) (s : State) : Result State :=
  s.decimalGuard (runModify 0x77#8 (.zpx ad) opRra s)

/-- RRA w,Y, opcode 7B (R304, R120). -/
def execRraAby (w : Word) (s : State) : Result State :=
  s.decimalGuard (runModify 0x7B#8 (.aby w) opRra s)

/-- RRA w,X, opcode 7F (R304, R120). -/
def execRraAbx (w : Word) (s : State) : Result State :=
  s.decimalGuard (runModify 0x7F#8 (.abx w) opRra s)

/-- DCP's operation (R305). -/
def opDcp (v : Byte) (s : State) : Byte × State := (v - 1, s.setFlags (compareFlags s.a (v - 1) s.flags))

/-- DCP (ad,X), opcode C3 (R305, R121). -/
def execDcpIzx (ad : Byte) (s : State) : Result State :=
  runModify 0xC3#8 (.izx ad) opDcp s

/-- DCP ad, opcode C7 (R305, R117). -/
def execDcpZp (ad : Byte) (s : State) : Result State :=
  runModify 0xC7#8 (.zp ad) opDcp s

/-- DCP w, opcode CF (R305, R119). -/
def execDcpAbs (w : Word) (s : State) : Result State :=
  runModify 0xCF#8 (.abs w) opDcp s

/-- DCP (ad),Y, opcode D3 (R305, R122). -/
def execDcpIzy (ad : Byte) (s : State) : Result State :=
  runModify 0xD3#8 (.izy ad) opDcp s

/-- DCP ad,X, opcode D7 (R305, R118). -/
def execDcpZpx (ad : Byte) (s : State) : Result State :=
  runModify 0xD7#8 (.zpx ad) opDcp s

/-- DCP w,Y, opcode DB (R305, R120). -/
def execDcpAby (w : Word) (s : State) : Result State :=
  runModify 0xDB#8 (.aby w) opDcp s

/-- DCP w,X, opcode DF (R305, R120). -/
def execDcpAbx (w : Word) (s : State) : Result State :=
  runModify 0xDF#8 (.abx w) opDcp s

/-- ISC's operation (R306). -/
def opIsc (v : Byte) (s : State) : Byte × State :=
  let r := sbcByte s.a (v + 1) s.flags
  (v + 1, (s.setFlags r.2).setA r.1)

/-- ISC (ad,X), opcode E3 (R306, R121). -/
def execIscIzx (ad : Byte) (s : State) : Result State :=
  s.decimalGuard (runModify 0xE3#8 (.izx ad) opIsc s)

/-- ISC ad, opcode E7 (R306, R117). -/
def execIscZp (ad : Byte) (s : State) : Result State :=
  s.decimalGuard (runModify 0xE7#8 (.zp ad) opIsc s)

/-- ISC w, opcode EF (R306, R119). -/
def execIscAbs (w : Word) (s : State) : Result State :=
  s.decimalGuard (runModify 0xEF#8 (.abs w) opIsc s)

/-- ISC (ad),Y, opcode F3 (R306, R122). -/
def execIscIzy (ad : Byte) (s : State) : Result State :=
  s.decimalGuard (runModify 0xF3#8 (.izy ad) opIsc s)

/-- ISC ad,X, opcode F7 (R306, R118). -/
def execIscZpx (ad : Byte) (s : State) : Result State :=
  s.decimalGuard (runModify 0xF7#8 (.zpx ad) opIsc s)

/-- ISC w,Y, opcode FB (R306, R120). -/
def execIscAby (w : Word) (s : State) : Result State :=
  s.decimalGuard (runModify 0xFB#8 (.aby w) opIsc s)

/-- ISC w,X, opcode FF (R306, R120). -/
def execIscAbx (w : Word) (s : State) : Result State :=
  s.decimalGuard (runModify 0xFF#8 (.abx w) opIsc s)

/-- LAX's operation on a memory byte (R307). -/
def opLax (m : Byte) (s : State) : State := ((s.setA m).setX m).setNZ m

/-- LAX immediate's operation (R308), with the parameter LXA_MAGIC. -/
def opLaxImmediate (v : Byte) (s : State) : State := opLax ((s.a ||| s.config.lxaMagic) &&& v) s

/-- LAX (ad,X), opcode A3 (R307, R121). -/
def execLaxIzx (ad : Byte) (s : State) : Result State :=
  runRead 0xA3#8 (.izx ad) opLax s

/-- LAX ad, opcode A7 (R307, R117). -/
def execLaxZp (ad : Byte) (s : State) : Result State :=
  runRead 0xA7#8 (.zp ad) opLax s

/-- LAX #v, opcode AB (R308, R116). -/
def execLaxImm (v : Byte) (s : State) : Result State :=
  runImmediate 0xAB#8 v opLaxImmediate s

/-- LAX w, opcode AF (R307, R119). -/
def execLaxAbs (w : Word) (s : State) : Result State :=
  runRead 0xAF#8 (.abs w) opLax s

/-- LAX (ad),Y, opcode B3 (R307, R122). -/
def execLaxIzy (ad : Byte) (s : State) : Result State :=
  runRead 0xB3#8 (.izy ad) opLax s

/-- LAX ad,Y, opcode B7 (R307, R118). -/
def execLaxZpy (ad : Byte) (s : State) : Result State :=
  runRead 0xB7#8 (.zpy ad) opLax s

/-- LAX w,Y, opcode BF (R307, R120). -/
def execLaxAby (w : Word) (s : State) : Result State :=
  runRead 0xBF#8 (.aby w) opLax s

/-! SAX (R309): A AND X to memory, no flag. -/

/-- SAX (ad,X), opcode 83 (R309, R121). -/
def execSaxIzx (ad : Byte) (s : State) : Result State :=
  runWrite 0x83#8 (.izx ad) (fun t => t.a &&& t.x) s

/-- SAX ad, opcode 87 (R309, R117). -/
def execSaxZp (ad : Byte) (s : State) : Result State :=
  runWrite 0x87#8 (.zp ad) (fun t => t.a &&& t.x) s

/-- SAX w, opcode 8F (R309, R119). -/
def execSaxAbs (w : Word) (s : State) : Result State :=
  runWrite 0x8F#8 (.abs w) (fun t => t.a &&& t.x) s

/-- SAX ad,Y, opcode 97 (R309, R118). -/
def execSaxZpy (ad : Byte) (s : State) : Result State :=
  runWrite 0x97#8 (.zpy ad) (fun t => t.a &&& t.x) s

/-- ANC's operation (R310): AND, and C is bit 7 of the result. -/
def opAnc (v : Byte) (s : State) : State :=
  (s.setA (s.a &&& v)).setFlags { s.flags.setNZ (s.a &&& v) with c := (s.a &&& v).getLsbD 7 }

/-- ANC #v, opcode 0B (R310, R116). -/
def execAnc0B (v : Byte) (s : State) : Result State :=
  runImmediate 0x0B#8 v opAnc s

/-- ANC #v, opcode 2B (R310, R116). -/
def execAnc2B (v : Byte) (s : State) : Result State :=
  runImmediate 0x2B#8 v opAnc s

/-- ALR's operation (R311). -/
def opAlr (v : Byte) (s : State) : State :=
  let w := lsr (s.a &&& v) s.flags
  ((s.setFlags w.2).setA w.1).setNZ w.1

/-- ALR #v, opcode 4B (R311, R116). -/
def execAlr (v : Byte) (s : State) : Result State :=
  runImmediate 0x4B#8 v opAlr s

/-- ARR's operation (R312). -/
def opArr (v : Byte) (s : State) : State :=
  let w := arrByte (s.a &&& v) s.flags
  (s.setFlags w.2).setA w.1

/-- ARR #v, opcode 6B (R312, R116). -/
def execArr (v : Byte) (s : State) : Result State :=
  s.decimalGuard (runImmediate 0x6B#8 v opArr s)

/-- XAA's operation (R313), with the parameter ANE_MAGIC. -/
def opXaa (v : Byte) (s : State) : State :=
  (s.setA ((s.a ||| s.config.aneMagic) &&& s.x &&& v)).setNZ ((s.a ||| s.config.aneMagic) &&& s.x &&& v)

/-- XAA #v, opcode 8B (R313, R116). -/
def execXaa (v : Byte) (s : State) : Result State :=
  runImmediate 0x8B#8 v opXaa s

/-- AXS's operation (R314): binary, without the old carry; C as in a compare. -/
def opAxs (v : Byte) (s : State) : State :=
  (s.setX ((s.a &&& s.x) - v)).setFlags
    { s.flags.setNZ ((s.a &&& s.x) - v) with c := decide (v.toNat ≤ (s.a &&& s.x).toNat) }

/-- AXS #v, opcode CB (R314, R116). -/
def execAxs (v : Byte) (s : State) : Result State :=
  runImmediate 0xCB#8 v opAxs s

/-- LAS's operation (R315). -/
def opLas (m : Byte) (s : State) : State :=
  (((s.setA (m &&& s.sp)).setX (m &&& s.sp)).setSp (m &&& s.sp)).setNZ (m &&& s.sp)

/-- LAS w,Y, opcode BB (R315, R120). -/
def execLas (w : Word) (s : State) : Result State :=
  runRead 0xBB#8 (.aby w) opLas s

/-! The stores of R316 to R319 and R321. -/

/-- TAS w,Y, opcode 9B (R316, R120). -/
def execTas (w : Word) (s : State) : Result State :=
  runHighStore 0x9B#8 (.aby w) (fun t => t.a &&& t.x) (fun t => t.setSp (t.a &&& t.x)) s

/-- AHX (ad),Y, opcode 93 (R317, R122). -/
def execAhxIzy (ad : Byte) (s : State) : Result State :=
  runHighStore 0x93#8 (.izy ad) (fun t => t.a &&& t.x) id s

/-- AHX w,Y, opcode 9F (R317, R120). -/
def execAhxAby (w : Word) (s : State) : Result State :=
  runHighStore 0x9F#8 (.aby w) (fun t => t.a &&& t.x) id s

/-- SHX w,Y, opcode 9E (R318, R120). -/
def execShx (w : Word) (s : State) : Result State :=
  runHighStore 0x9E#8 (.aby w) State.x id s

/-- SHY w,X, opcode 9C (R319, R120). -/
def execShy (w : Word) (s : State) : Result State :=
  runHighStore 0x9C#8 (.abx w) State.y id s

end Sys2Proof.Machine
end

