-- ==== Sys2Proof/Machine/Dispatch.lean ====
section
/-! DEFINITION. The dispatch: one arm per constructor of Instr, each one direct call of its meaning. -/

namespace Sys2Proof.Machine
open Sys2Proof

def exec (i : Instr) (s : State) : Host.Outcome State Fault Refusal :=
  match i with
  | .brk => Sys2Proof.Machine.execBrk s
  | .oraIzx ad => Sys2Proof.Machine.execOraIzx ad s
  | .jam02 => Sys2Proof.Machine.execJam02 s
  | .sloIzx ad => Sys2Proof.Machine.execSloIzx ad s
  | .nopZp04 ad => Sys2Proof.Machine.execNopZp04 ad s
  | .oraZp ad => Sys2Proof.Machine.execOraZp ad s
  | .aslZp ad => Sys2Proof.Machine.execAslZp ad s
  | .sloZp ad => Sys2Proof.Machine.execSloZp ad s
  | .php => Sys2Proof.Machine.execPhp s
  | .oraImm v => Sys2Proof.Machine.execOraImm v s
  | .aslAcc => Sys2Proof.Machine.execAslAcc s
  | .anc0B v => Sys2Proof.Machine.execAnc0B v s
  | .nopAbs w => Sys2Proof.Machine.execNopAbs w s
  | .oraAbs w => Sys2Proof.Machine.execOraAbs w s
  | .aslAbs w => Sys2Proof.Machine.execAslAbs w s
  | .sloAbs w => Sys2Proof.Machine.execSloAbs w s
  | .bpl off => Sys2Proof.Machine.execBpl off s
  | .oraIzy ad => Sys2Proof.Machine.execOraIzy ad s
  | .jam12 => Sys2Proof.Machine.execJam12 s
  | .sloIzy ad => Sys2Proof.Machine.execSloIzy ad s
  | .nopZpx14 ad => Sys2Proof.Machine.execNopZpx14 ad s
  | .oraZpx ad => Sys2Proof.Machine.execOraZpx ad s
  | .aslZpx ad => Sys2Proof.Machine.execAslZpx ad s
  | .sloZpx ad => Sys2Proof.Machine.execSloZpx ad s
  | .clc => Sys2Proof.Machine.execClc s
  | .oraAby w => Sys2Proof.Machine.execOraAby w s
  | .nopImp1A => Sys2Proof.Machine.execNopImp1A s
  | .sloAby w => Sys2Proof.Machine.execSloAby w s
  | .nopAbx1C w => Sys2Proof.Machine.execNopAbx1C w s
  | .oraAbx w => Sys2Proof.Machine.execOraAbx w s
  | .aslAbx w => Sys2Proof.Machine.execAslAbx w s
  | .sloAbx w => Sys2Proof.Machine.execSloAbx w s
  | .jsr w => Sys2Proof.Machine.execJsr w s
  | .andIzx ad => Sys2Proof.Machine.execAndIzx ad s
  | .jam22 => Sys2Proof.Machine.execJam22 s
  | .rlaIzx ad => Sys2Proof.Machine.execRlaIzx ad s
  | .bitZp ad => Sys2Proof.Machine.execBitZp ad s
  | .andZp ad => Sys2Proof.Machine.execAndZp ad s
  | .rolZp ad => Sys2Proof.Machine.execRolZp ad s
  | .rlaZp ad => Sys2Proof.Machine.execRlaZp ad s
  | .plp => Sys2Proof.Machine.execPlp s
  | .andImm v => Sys2Proof.Machine.execAndImm v s
  | .rolAcc => Sys2Proof.Machine.execRolAcc s
  | .anc2B v => Sys2Proof.Machine.execAnc2B v s
  | .bitAbs w => Sys2Proof.Machine.execBitAbs w s
  | .andAbs w => Sys2Proof.Machine.execAndAbs w s
  | .rolAbs w => Sys2Proof.Machine.execRolAbs w s
  | .rlaAbs w => Sys2Proof.Machine.execRlaAbs w s
  | .bmi off => Sys2Proof.Machine.execBmi off s
  | .andIzy ad => Sys2Proof.Machine.execAndIzy ad s
  | .jam32 => Sys2Proof.Machine.execJam32 s
  | .rlaIzy ad => Sys2Proof.Machine.execRlaIzy ad s
  | .nopZpx34 ad => Sys2Proof.Machine.execNopZpx34 ad s
  | .andZpx ad => Sys2Proof.Machine.execAndZpx ad s
  | .rolZpx ad => Sys2Proof.Machine.execRolZpx ad s
  | .rlaZpx ad => Sys2Proof.Machine.execRlaZpx ad s
  | .sec => Sys2Proof.Machine.execSec s
  | .andAby w => Sys2Proof.Machine.execAndAby w s
  | .nopImp3A => Sys2Proof.Machine.execNopImp3A s
  | .rlaAby w => Sys2Proof.Machine.execRlaAby w s
  | .nopAbx3C w => Sys2Proof.Machine.execNopAbx3C w s
  | .andAbx w => Sys2Proof.Machine.execAndAbx w s
  | .rolAbx w => Sys2Proof.Machine.execRolAbx w s
  | .rlaAbx w => Sys2Proof.Machine.execRlaAbx w s
  | .rti => Sys2Proof.Machine.execRti s
  | .eorIzx ad => Sys2Proof.Machine.execEorIzx ad s
  | .jam42 => Sys2Proof.Machine.execJam42 s
  | .sreIzx ad => Sys2Proof.Machine.execSreIzx ad s
  | .nopZp44 ad => Sys2Proof.Machine.execNopZp44 ad s
  | .eorZp ad => Sys2Proof.Machine.execEorZp ad s
  | .lsrZp ad => Sys2Proof.Machine.execLsrZp ad s
  | .sreZp ad => Sys2Proof.Machine.execSreZp ad s
  | .pha => Sys2Proof.Machine.execPha s
  | .eorImm v => Sys2Proof.Machine.execEorImm v s
  | .lsrAcc => Sys2Proof.Machine.execLsrAcc s
  | .alr v => Sys2Proof.Machine.execAlr v s
  | .jmpAbs w => Sys2Proof.Machine.execJmpAbs w s
  | .eorAbs w => Sys2Proof.Machine.execEorAbs w s
  | .lsrAbs w => Sys2Proof.Machine.execLsrAbs w s
  | .sreAbs w => Sys2Proof.Machine.execSreAbs w s
  | .bvc off => Sys2Proof.Machine.execBvc off s
  | .eorIzy ad => Sys2Proof.Machine.execEorIzy ad s
  | .jam52 => Sys2Proof.Machine.execJam52 s
  | .sreIzy ad => Sys2Proof.Machine.execSreIzy ad s
  | .nopZpx54 ad => Sys2Proof.Machine.execNopZpx54 ad s
  | .eorZpx ad => Sys2Proof.Machine.execEorZpx ad s
  | .lsrZpx ad => Sys2Proof.Machine.execLsrZpx ad s
  | .sreZpx ad => Sys2Proof.Machine.execSreZpx ad s
  | .cli => Sys2Proof.Machine.execCli s
  | .eorAby w => Sys2Proof.Machine.execEorAby w s
  | .nopImp5A => Sys2Proof.Machine.execNopImp5A s
  | .sreAby w => Sys2Proof.Machine.execSreAby w s
  | .nopAbx5C w => Sys2Proof.Machine.execNopAbx5C w s
  | .eorAbx w => Sys2Proof.Machine.execEorAbx w s
  | .lsrAbx w => Sys2Proof.Machine.execLsrAbx w s
  | .sreAbx w => Sys2Proof.Machine.execSreAbx w s
  | .rts => Sys2Proof.Machine.execRts s
  | .adcIzx ad => Sys2Proof.Machine.execAdcIzx ad s
  | .jam62 => Sys2Proof.Machine.execJam62 s
  | .rraIzx ad => Sys2Proof.Machine.execRraIzx ad s
  | .nopZp64 ad => Sys2Proof.Machine.execNopZp64 ad s
  | .adcZp ad => Sys2Proof.Machine.execAdcZp ad s
  | .rorZp ad => Sys2Proof.Machine.execRorZp ad s
  | .rraZp ad => Sys2Proof.Machine.execRraZp ad s
  | .pla => Sys2Proof.Machine.execPla s
  | .adcImm v => Sys2Proof.Machine.execAdcImm v s
  | .rorAcc => Sys2Proof.Machine.execRorAcc s
  | .arr v => Sys2Proof.Machine.execArr v s
  | .jmpInd w => Sys2Proof.Machine.execJmpInd w s
  | .adcAbs w => Sys2Proof.Machine.execAdcAbs w s
  | .rorAbs w => Sys2Proof.Machine.execRorAbs w s
  | .rraAbs w => Sys2Proof.Machine.execRraAbs w s
  | .bvs off => Sys2Proof.Machine.execBvs off s
  | .adcIzy ad => Sys2Proof.Machine.execAdcIzy ad s
  | .jam72 => Sys2Proof.Machine.execJam72 s
  | .rraIzy ad => Sys2Proof.Machine.execRraIzy ad s
  | .nopZpx74 ad => Sys2Proof.Machine.execNopZpx74 ad s
  | .adcZpx ad => Sys2Proof.Machine.execAdcZpx ad s
  | .rorZpx ad => Sys2Proof.Machine.execRorZpx ad s
  | .rraZpx ad => Sys2Proof.Machine.execRraZpx ad s
  | .sei => Sys2Proof.Machine.execSei s
  | .adcAby w => Sys2Proof.Machine.execAdcAby w s
  | .nopImp7A => Sys2Proof.Machine.execNopImp7A s
  | .rraAby w => Sys2Proof.Machine.execRraAby w s
  | .nopAbx7C w => Sys2Proof.Machine.execNopAbx7C w s
  | .adcAbx w => Sys2Proof.Machine.execAdcAbx w s
  | .rorAbx w => Sys2Proof.Machine.execRorAbx w s
  | .rraAbx w => Sys2Proof.Machine.execRraAbx w s
  | .nopImm80 v => Sys2Proof.Machine.execNopImm80 v s
  | .staIzx ad => Sys2Proof.Machine.execStaIzx ad s
  | .nopImm82 v => Sys2Proof.Machine.execNopImm82 v s
  | .saxIzx ad => Sys2Proof.Machine.execSaxIzx ad s
  | .styZp ad => Sys2Proof.Machine.execStyZp ad s
  | .staZp ad => Sys2Proof.Machine.execStaZp ad s
  | .stxZp ad => Sys2Proof.Machine.execStxZp ad s
  | .saxZp ad => Sys2Proof.Machine.execSaxZp ad s
  | .dey => Sys2Proof.Machine.execDey s
  | .nopImm89 v => Sys2Proof.Machine.execNopImm89 v s
  | .txa => Sys2Proof.Machine.execTxa s
  | .xaa v => Sys2Proof.Machine.execXaa v s
  | .styAbs w => Sys2Proof.Machine.execStyAbs w s
  | .staAbs w => Sys2Proof.Machine.execStaAbs w s
  | .stxAbs w => Sys2Proof.Machine.execStxAbs w s
  | .saxAbs w => Sys2Proof.Machine.execSaxAbs w s
  | .bcc off => Sys2Proof.Machine.execBcc off s
  | .staIzy ad => Sys2Proof.Machine.execStaIzy ad s
  | .jam92 => Sys2Proof.Machine.execJam92 s
  | .ahxIzy ad => Sys2Proof.Machine.execAhxIzy ad s
  | .styZpx ad => Sys2Proof.Machine.execStyZpx ad s
  | .staZpx ad => Sys2Proof.Machine.execStaZpx ad s
  | .stxZpy ad => Sys2Proof.Machine.execStxZpy ad s
  | .saxZpy ad => Sys2Proof.Machine.execSaxZpy ad s
  | .tya => Sys2Proof.Machine.execTya s
  | .staAby w => Sys2Proof.Machine.execStaAby w s
  | .txs => Sys2Proof.Machine.execTxs s
  | .tas w => Sys2Proof.Machine.execTas w s
  | .shy w => Sys2Proof.Machine.execShy w s
  | .staAbx w => Sys2Proof.Machine.execStaAbx w s
  | .shx w => Sys2Proof.Machine.execShx w s
  | .ahxAby w => Sys2Proof.Machine.execAhxAby w s
  | .ldyImm v => Sys2Proof.Machine.execLdyImm v s
  | .ldaIzx ad => Sys2Proof.Machine.execLdaIzx ad s
  | .ldxImm v => Sys2Proof.Machine.execLdxImm v s
  | .laxIzx ad => Sys2Proof.Machine.execLaxIzx ad s
  | .ldyZp ad => Sys2Proof.Machine.execLdyZp ad s
  | .ldaZp ad => Sys2Proof.Machine.execLdaZp ad s
  | .ldxZp ad => Sys2Proof.Machine.execLdxZp ad s
  | .laxZp ad => Sys2Proof.Machine.execLaxZp ad s
  | .tay => Sys2Proof.Machine.execTay s
  | .ldaImm v => Sys2Proof.Machine.execLdaImm v s
  | .tax => Sys2Proof.Machine.execTax s
  | .laxImm v => Sys2Proof.Machine.execLaxImm v s
  | .ldyAbs w => Sys2Proof.Machine.execLdyAbs w s
  | .ldaAbs w => Sys2Proof.Machine.execLdaAbs w s
  | .ldxAbs w => Sys2Proof.Machine.execLdxAbs w s
  | .laxAbs w => Sys2Proof.Machine.execLaxAbs w s
  | .bcs off => Sys2Proof.Machine.execBcs off s
  | .ldaIzy ad => Sys2Proof.Machine.execLdaIzy ad s
  | .jamB2 => Sys2Proof.Machine.execJamB2 s
  | .laxIzy ad => Sys2Proof.Machine.execLaxIzy ad s
  | .ldyZpx ad => Sys2Proof.Machine.execLdyZpx ad s
  | .ldaZpx ad => Sys2Proof.Machine.execLdaZpx ad s
  | .ldxZpy ad => Sys2Proof.Machine.execLdxZpy ad s
  | .laxZpy ad => Sys2Proof.Machine.execLaxZpy ad s
  | .clv => Sys2Proof.Machine.execClv s
  | .ldaAby w => Sys2Proof.Machine.execLdaAby w s
  | .tsx => Sys2Proof.Machine.execTsx s
  | .las w => Sys2Proof.Machine.execLas w s
  | .ldyAbx w => Sys2Proof.Machine.execLdyAbx w s
  | .ldaAbx w => Sys2Proof.Machine.execLdaAbx w s
  | .ldxAby w => Sys2Proof.Machine.execLdxAby w s
  | .laxAby w => Sys2Proof.Machine.execLaxAby w s
  | .cpyImm v => Sys2Proof.Machine.execCpyImm v s
  | .cmpIzx ad => Sys2Proof.Machine.execCmpIzx ad s
  | .nopImmC2 v => Sys2Proof.Machine.execNopImmC2 v s
  | .dcpIzx ad => Sys2Proof.Machine.execDcpIzx ad s
  | .cpyZp ad => Sys2Proof.Machine.execCpyZp ad s
  | .cmpZp ad => Sys2Proof.Machine.execCmpZp ad s
  | .decZp ad => Sys2Proof.Machine.execDecZp ad s
  | .dcpZp ad => Sys2Proof.Machine.execDcpZp ad s
  | .iny => Sys2Proof.Machine.execIny s
  | .cmpImm v => Sys2Proof.Machine.execCmpImm v s
  | .dex => Sys2Proof.Machine.execDex s
  | .axs v => Sys2Proof.Machine.execAxs v s
  | .cpyAbs w => Sys2Proof.Machine.execCpyAbs w s
  | .cmpAbs w => Sys2Proof.Machine.execCmpAbs w s
  | .decAbs w => Sys2Proof.Machine.execDecAbs w s
  | .dcpAbs w => Sys2Proof.Machine.execDcpAbs w s
  | .bne off => Sys2Proof.Machine.execBne off s
  | .cmpIzy ad => Sys2Proof.Machine.execCmpIzy ad s
  | .jamD2 => Sys2Proof.Machine.execJamD2 s
  | .dcpIzy ad => Sys2Proof.Machine.execDcpIzy ad s
  | .nopZpxD4 ad => Sys2Proof.Machine.execNopZpxD4 ad s
  | .cmpZpx ad => Sys2Proof.Machine.execCmpZpx ad s
  | .decZpx ad => Sys2Proof.Machine.execDecZpx ad s
  | .dcpZpx ad => Sys2Proof.Machine.execDcpZpx ad s
  | .cld => Sys2Proof.Machine.execCld s
  | .cmpAby w => Sys2Proof.Machine.execCmpAby w s
  | .nopImpDA => Sys2Proof.Machine.execNopImpDA s
  | .dcpAby w => Sys2Proof.Machine.execDcpAby w s
  | .nopAbxDC w => Sys2Proof.Machine.execNopAbxDC w s
  | .cmpAbx w => Sys2Proof.Machine.execCmpAbx w s
  | .decAbx w => Sys2Proof.Machine.execDecAbx w s
  | .dcpAbx w => Sys2Proof.Machine.execDcpAbx w s
  | .cpxImm v => Sys2Proof.Machine.execCpxImm v s
  | .sbcIzx ad => Sys2Proof.Machine.execSbcIzx ad s
  | .nopImmE2 v => Sys2Proof.Machine.execNopImmE2 v s
  | .iscIzx ad => Sys2Proof.Machine.execIscIzx ad s
  | .cpxZp ad => Sys2Proof.Machine.execCpxZp ad s
  | .sbcZp ad => Sys2Proof.Machine.execSbcZp ad s
  | .incZp ad => Sys2Proof.Machine.execIncZp ad s
  | .iscZp ad => Sys2Proof.Machine.execIscZp ad s
  | .inx => Sys2Proof.Machine.execInx s
  | .sbcImm v => Sys2Proof.Machine.execSbcImm v s
  | .nopImp => Sys2Proof.Machine.execNopImp s
  | .sbcImmEB v => Sys2Proof.Machine.execSbcImmEB v s
  | .cpxAbs w => Sys2Proof.Machine.execCpxAbs w s
  | .sbcAbs w => Sys2Proof.Machine.execSbcAbs w s
  | .incAbs w => Sys2Proof.Machine.execIncAbs w s
  | .iscAbs w => Sys2Proof.Machine.execIscAbs w s
  | .beq off => Sys2Proof.Machine.execBeq off s
  | .sbcIzy ad => Sys2Proof.Machine.execSbcIzy ad s
  | .jamF2 => Sys2Proof.Machine.execJamF2 s
  | .iscIzy ad => Sys2Proof.Machine.execIscIzy ad s
  | .nopZpxF4 ad => Sys2Proof.Machine.execNopZpxF4 ad s
  | .sbcZpx ad => Sys2Proof.Machine.execSbcZpx ad s
  | .incZpx ad => Sys2Proof.Machine.execIncZpx ad s
  | .iscZpx ad => Sys2Proof.Machine.execIscZpx ad s
  | .sed => Sys2Proof.Machine.execSed s
  | .sbcAby w => Sys2Proof.Machine.execSbcAby w s
  | .nopImpFA => Sys2Proof.Machine.execNopImpFA s
  | .iscAby w => Sys2Proof.Machine.execIscAby w s
  | .nopAbxFC w => Sys2Proof.Machine.execNopAbxFC w s
  | .sbcAbx w => Sys2Proof.Machine.execSbcAbx w s
  | .incAbx w => Sys2Proof.Machine.execIncAbx w s
  | .iscAbx w => Sys2Proof.Machine.execIscAbx w s

end Sys2Proof.Machine
end

