-- ==== Sys2Proof/Machine/Step.lean ====
section
/-! DEFINITION. The step of the machine (spec 10_state.md R41, R42). -/

namespace Sys2Proof.Machine

/-- One call of the step port, or of the reset port when the host's next call is a reset (00_scope.md R12; log 4). -/
def step (s : State) : Host.Outcome State Fault Refusal :=
  match s.boundary with
  | (.reset, t) => .next t.takeReset
  | (.halted, t) => .next t.stayHalted
  | (.nmi, t) => .next (t.interruptEntry .nmi vectorNmi)
  | (.irq, t) => .next (t.interruptEntry .irq vectorIrq)
  | (.instruction, t) => exec t.fetchInstr t

/-- `s` with the instruction whose `nbits` bits are `w` (the bits above zero) stored at PC, so that the next step runs it
(log 14, log 15). -/
def State.withFetchWord (s : State) (nbits w : Nat) : State :=
  let bits := w % 2 ^ nbits
  s.placeBytes (BitVec.ofNat 8 bits) (BitVec.ofNat 8 (bits / 256)) (BitVec.ofNat 8 (bits / 65536))

end Sys2Proof.Machine
end

