-- ==== Sys2Proof/WellFormed.lean ====
section
/-! DEFINITION. Which pairs of an operation and an operand are instructions (spec 40_addressing.md R113, 60_exceptions.md R402,
30_encoding.md R95, R101). A term of `Instr` cannot be ill-formed, since its fields have the widths the encoding gives
them and no encoding is reserved (R97); a `Form`, what an assembler line names, can be. -/

namespace Sys2Proof

/-- An operation and an operand, as an assembler line names them (R101), before an opcode byte is looked up. -/
structure Form where
  operation : Operation
  operand : Operand
deriving DecidableEq, Repr

/-- R113, R402: an operation that reads, writes or modifies a memory operand never meets the Implied mode, and a store never
meets Accumulator or Immediate either; a read may be Immediate (its class is then not used) and a shift Accumulator.
NOP, which needs no operand value, is the one operation of class read with an Implied form (45_flags_nop_jam.md R287). -/
def Form.addressable (f : Form) : Bool :=
  match f.operation.accessClass, f.operand with
  | some .read, .implied => f.operation == .nop
  | some .read, .accumulator => false
  | some .write, .implied | some .write, .accumulator | some .write, .immediate _ => false
  | some .readModifyWrite, .implied | some .readModifyWrite, .immediate _ => false
  | some _, .indirect _ | some _, .relative _ => false
  | _, _ => true

/-- R95: some opcode byte has this operation in this mode. -/
def Form.encodable (f : Form) : Bool :=
  opcodeMap.toList.any fun row => row.toList.any fun d => d.operation == f.operation && d.mode == f.operand.mode

/-- A form is well-formed when its mode suits the operation (R113) and the opcode map has the pair (R95). -/
def Form.wellFormed (f : Form) : Bool := f.addressable && f.encodable

/-- The form of an instruction. -/
def Instr.form (i : Instr) : Form := { operation := i.operation, operand := i.operand }

/-- An instruction is well-formed when its form is, and the descriptor of its opcode byte names that form (R94, R95). -/
def Instr.wellFormed (i : Instr) : Bool :=
  i.form.wellFormed && (descriptor i.opcode).operation == i.operation && (descriptor i.opcode).mode == i.operand.mode

/-- The displacement an assembler writes for a branch at `at` to `target`, where it lies in -128..127 (R101). -/
def branchDisplacement (at_ target : Word) : Option Byte :=
  let d := target - (at_ + 2)
  if sext16 (loByte d) = d then some (loByte d) else none

end Sys2Proof
end

