-- ==== Sys2Proof/Safety.lean ====
section
/-! DEFINITION. The terms the claims are stated in: the parts of a state, what an instruction leaves alone, the bus sequences of
the addressing modes written as lists, and the invariant of the machine. -/

namespace Sys2Proof.Machine

/-- The register file with flags (spec 10_state.md R20). -/
structure Regs where
  a : Byte
  x : Byte
  y : Byte
  sp : Byte
  pc : Word
  flags : Flags
deriving DecidableEq, Repr

/-- The hidden state (10_state.md R36 to R39). -/
structure Hidden where
  halted : Bool
  nmiPrev : Bool
  nmiPending : Bool
  iPoll : Bool
  pollOk : Bool
deriving DecidableEq, Repr

/-- What is not the core's: the parameters, where the bus rejects writes, the input levels and the coming host calls. -/
structure Platform where
  readOnly : List Region
  config : Config
  irqLine : Bool
  nmiLine : Bool
  host : List HostEvent
deriving DecidableEq, Repr

/-- The registers of a state. -/
def State.regs (s : State) : Regs := { a := s.a, x := s.x, y := s.y, sp := s.sp, pc := s.pc, flags := s.flags }

/-- The hidden state of a state. -/
def State.hidden (s : State) : Hidden :=
  { halted := s.halted, nmiPrev := s.nmiPrev, nmiPending := s.nmiPending, iPoll := s.iPoll, pollOk := s.pollOk }

/-- The platform part of a state. -/
def State.platform (s : State) : Platform :=
  { readOnly := s.readOnly, config := s.config, irqLine := s.irqLine, nmiLine := s.nmiLine, host := s.host }

/-- `t` is the state after the instruction `i`, other than BRK and JAM, from `s` (10_state.md R42): it leaves the registers `r`,
the next IRQ poll uses `iPoll`, interrupts may be taken, the rest of the hidden state and the platform are as before, the
outcome is OK, and the bus saw exactly the accesses `tr`, one per cycle (R44). So `t` is fixed but for memory, which is
stated beside it. -/
structure State.Ran (s t : State) (i : Instr) (r : Regs) (iPoll : Bool) (tr : List BusAccess) : Prop where
  regs : t.regs = r
  hidden : t.hidden = { s.hidden with iPoll := iPoll, pollOk := true }
  platform : t.platform = s.platform
  outcome : t.outcome = .ok
  event : t.event = .instruction i.opcode
  trace : t.trace = tr
  cycles : t.cycles = tr.length

/-- Every byte of memory reads as before. -/
def State.SameMemory (s t : State) : Prop := ∀ a : Word, t.peek a = s.peek a

/-- After one store of `v` at `addr`: that byte reads `v` where the bus accepts the write (20_memory.md R62), and every
other byte reads as before. -/
def State.Stored (s t : State) (addr : Word) (v : Byte) : Prop :=
  ∀ a : Word, t.peek a = if a = addr ∧ s.writable addr = true then v else s.peek a

/-- The byte at `a` after the bytes `bs` are pushed, the first one first, from the stack pointer `sp` on (00_scope.md R17,
10_state.md R24): each lands where the bus accepts the write. -/
def State.pushedByte (s : State) : Byte → List Byte → Word → Byte
  | _, [], a => s.peek a
  | sp, b :: bs, a => if a = stackAddr sp ∧ s.writable a = true then b else s.pushedByte (sp - 1) bs a

/-- After pushing the bytes `bs`: they lie on the stack page, and every other byte reads as before. -/
def State.Pushed (s t : State) (bs : List Byte) : Prop := ∀ a : Word, t.peek a = s.pushedByte s.sp bs a

/-- The address after an instruction's bytes (10_state.md R25). -/
def State.nextPc (s : State) (i : Instr) : Word := s.pc + BitVec.ofNat 16 i.length

/-- The operand of the read class (40_addressing.md R112, R116): the immediate byte, or the byte at the effective address. -/
def State.operandValue (s : State) : Operand → Option Byte
  | .immediate v => some v
  | .memory m => some (s.peek (effectiveAddress m s))
  | .implied | .accumulator | .indirect _ | .relative _ => none

/-! ## Results the rules give, in the terms of their integers -/

/-- What ADC and RRA leave in A and the flags for accumulator `a`, operand `m` and the old flags (42_arith_logic.md R180, R181,
R184), on unbounded integers and decimal digits. -/
def addRule (a m : Byte) (f : Flags) : Byte × Flags :=
  let sum : Nat := a.toNat + m.toNat + f.c.toNat
  let r : Byte := BitVec.ofNat 8 sum
  if f.d then
    let digit : Nat := a.toNat % 16 + m.toNat % 16 + f.c.toNat
    let al : Nat := if 10 ≤ digit then (digit + 6) % 16 + 16 else digit
    let high : Nat := a.toNat / 16 * 16 + m.toNat / 16 * 16
    let t : Int := (a &&& 0xF0).toInt + (m &&& 0xF0).toInt + al
    let adjusted : Nat := if 0xA0 ≤ high + al then high + al + 0x60 else high + al
    (BitVec.ofNat 8 adjusted,
      { f with
        n := (BitVec.ofNat 8 (high + al)).getLsbD 7
        v := decide (t < -128) || decide (127 < t)
        z := r == 0
        c := decide (256 ≤ adjusted) })
  else
    (r, { f with
      n := r.getLsbD 7
      v := a.getLsbD 7 == m.getLsbD 7 && r.getLsbD 7 != a.getLsbD 7
      z := r == 0
      c := decide (256 ≤ sum) })

/-- What SBC and ISC leave in A and the flags (42_arith_logic.md R182, R185): the flags of the binary subtract of `m` and the
borrow, whatever D is; the result decimal when D = 1. -/
def subRule (a m : Byte) (f : Flags) : Byte × Flags :=
  let borrow : Nat := 1 - f.c.toNat
  let r : Byte := BitVec.ofInt 8 ((a.toNat : Int) - m.toNat - borrow)
  let signed : Int := a.toInt - m.toInt - borrow
  let flags : Flags := { f with
    n := r.getLsbD 7
    v := decide (signed < -128) || decide (127 < signed)
    z := r == 0
    c := decide (m.toNat + borrow ≤ a.toNat) }
  if f.d then
    let digit : Int := (a.toNat % 16 : Nat) - (m.toNat % 16 : Nat) - borrow
    let al : Int := if digit < 0 then (digit - 6) % 16 - 16 else digit
    let high : Int := (a.toNat / 16 * 16 : Nat) - (m.toNat / 16 * 16 : Nat) + al
    (BitVec.ofInt 8 (if high < 0 then high - 0x60 else high), flags)
  else (r, flags)

/-- The flags of a comparison of the register `r` with `m` (42_arith_logic.md R190): no borrow, and N and Z of the
difference. -/
def compareRule (r m : Byte) (f : Flags) : Flags :=
  { f with n := (r - m).getLsbD 7, z := r - m == 0, c := decide (m.toNat ≤ r.toNat) }

/-- Whether a branch is taken (44_control.md R255 to R262). -/
def branchTaken (o : Operation) (f : Flags) : Bool :=
  match o with
  | .bpl => !f.n
  | .bmi => f.n
  | .bvc => !f.v
  | .bvs => f.v
  | .bcc => !f.c
  | .bcs => f.c
  | .bne => !f.z
  | .beq => f.z
  | _ => false

/-- The byte whose decimal digits are those of `n`, for `n` below 100. -/
def bcd (n : Nat) : Byte := BitVec.ofNat 8 (n / 10 * 16 + n % 10)

/-! ## Bus sequences as lists (40_addressing.md) -/

/-- A read of `a` that returns what the bus holds there. -/
def State.rd (s : State) (a : Word) : BusAccess := ⟨.read, a, s.peek a⟩

/-- A write of `v` at `a`. -/
def wr (a : Word) (v : Byte) : BusAccess := ⟨.write, a, v⟩

/-- The instruction-stream reads of the bytes `bs` from `pc` on (R111). -/
def streamReads (pc : Word) : List Byte → List BusAccess
  | [] => []
  | b :: bs => ⟨.read, pc, b⟩ :: streamReads (pc + 1) bs

/-- The reads between the operand bytes and the operand cycles: the unindexed zero-page address (R118, R121), the pointer
bytes (R121, R122). -/
def State.addressReads (s : State) : MemOperand → List BusAccess
  | .zp _ | .abs _ | .abx _ | .aby _ => []
  | .zpx ad | .zpy ad => [s.rd (zext16 ad)]
  | .izx ad => [s.rd (zext16 ad), s.rd (zext16 (ad + s.x)), s.rd (zext16 (ad + s.x + 1))]
  | .izy ad => [s.rd (zext16 ad), s.rd (zext16 (ad + 1))]

/-- The read at the uncorrected address that a write or read-modify-write makes in abx, aby and izy (R120, R122). -/
def State.fixupReads (s : State) (m : MemOperand) : List BusAccess :=
  if (index16 m s).isSome then [s.rd (unfixedAddress m s)] else []

/-- Opcode, operand bytes and address reads of `i` on the memory operand `m`. -/
def State.prefixReads (s : State) (i : Instr) (m : MemOperand) : List BusAccess :=
  streamReads s.pc (encode i) ++ s.addressReads m

/-- The bus accesses of an instruction that reads its operand (40_addressing.md R112, R114 to R122): for a memory operand the
read at the uncorrected address when the page is crossed, then the operand; for an implied or accumulator form the dummy
read of the next byte; for an immediate form nothing more than its bytes. -/
def State.readTrace (s : State) (i : Instr) : List BusAccess :=
  streamReads s.pc (encode i) ++
    match i.operand with
    | .memory m =>
      s.addressReads m ++ (if pageCrossed m s then [s.rd (unfixedAddress m s)] else []) ++ [s.rd (effectiveAddress m s)]
    | .implied | .accumulator => [s.rd (s.nextPc i)]
    | .immediate _ | .indirect _ | .relative _ => []

/-- The bus accesses of the write class on the memory operand `m` (R112): one write of `v` at `addr`. -/
def State.writeTrace (s : State) (i : Instr) (m : MemOperand) (addr : Word) (v : Byte) : List BusAccess :=
  s.prefixReads i m ++ s.fixupReads m ++ [wr addr v]

/-- The bus accesses of the read-modify-write class on the memory operand `m` (R112): the read, the unmodified value written
back, the result `w` written. -/
def State.modifyTrace (s : State) (i : Instr) (m : MemOperand) (w : Byte) : List BusAccess :=
  s.prefixReads i m ++ s.fixupReads m ++
    [s.rd (effectiveAddress m s), wr (effectiveAddress m s) (s.peek (effectiveAddress m s)), wr (effectiveAddress m s) w]

/-! ## Encodings and inputs -/

/-- The opcode bytes of the operation `o` are exactly those of `l`, each in its mode (30_encoding.md R95). -/
def Encoded (o : Operation) (l : List (Byte × Mode)) : Prop :=
  ∀ (op : Byte) (m : Mode), ((descriptor op).operation = o ∧ (descriptor op).mode = m) ↔ (op, m) ∈ l

/-- The host's call at this boundary is `step` with the levels `irq` and `nmi`, and `queue` is what it calls later (log 4): the
head of the queue, or the levels of the last call when nothing is queued. -/
def State.Inputs (s : State) (irq nmi : Bool) (queue : List HostEvent) : Prop :=
  s.host = .levels irq nmi :: queue ∨ s.host = [] ∧ queue = [] ∧ irq = s.irqLine ∧ nmi = s.nmiLine

/-- The state in which the core acts on those inputs. -/
def State.withInputs (s : State) (irq nmi : Bool) (queue : List HostEvent) : State :=
  { s with irqLine := irq, nmiLine := nmi, host := queue }

/-! ## Invariant -/

/-- What every step keeps: memory is in its canonical form; the reported cycle count is the length of the reported trace
(70_reset_and_hazards.md R459); the core is halted exactly when the outcome says so (10_state.md R36, R43); and while no
interrupt may be taken, I and the polled I are 1 (R38, R39). -/
structure State.Inv (s : State) : Prop where
  memory : s.mem.wf = true
  cycles : s.cycles = s.trace.length
  outcome : s.halted = true ↔ s.outcome = .halted
  handler : s.pollOk = false → s.iPoll = true ∧ s.flags.i = true

end Sys2Proof.Machine
end

