-- ==== Sys2Proof/Certificates/Slice0/Obligations.lean ====
section
/-! DEFINITION. The statements for the provers. Each docstring says the rules it formalises; a statement "derived" rests on the
cited sections, and says where it rests on a choice of the model (notes/assumptions). -/

open Sys2Proof Sys2Proof.Machine

/-- For every instruction i with every value of its operand, and whatever bytes follow it, decoding the bytes of i answers i and
leaves the bytes that follow. So no bit of an encoding is dropped and no two instructions share an encoding. (derived: R90,
R91, R92, R93, R95) -/
def Obligations.DecodeInvertsEncode : Prop :=
  ∀ (i : Instr) (rest : List Byte), decode (encode i ++ rest) = .ok (i, rest)

/-- Whenever decoding a list of bytes answers an instruction i and the bytes that remain, the list is the bytes of i followed by
the bytes that remain: each encoding means one instruction and decoding consumes exactly its bytes. (derived: R90, R91, R92) -/
def Obligations.EncodeInvertsDecode : Prop :=
  ∀ (bytes : List Byte) (i : Instr) (rest : List Byte), decode bytes = .ok (i, rest) → bytes = encode i ++ rest

/-- For every opcode byte and every two bytes after it: decoding the three bytes succeeds; the instruction decoded has that
opcode byte, the operation and the mode of the descriptor of that opcode byte, and a length of 1 plus the operand bytes of
that mode; any other instruction with that opcode byte has the same operation and mode. So decoding is total, no opcode byte
is without a descriptor, and the opcode byte alone gives operation, mode and length. (stated: R93) -/
def Obligations.EveryOpcodeDecodes : Prop :=
  ∀ op b1 b2 : Byte, ∃ i rest, decode [op, b1, b2] = .ok (i, rest) ∧ i.opcode = op ∧
    i.operation = (descriptor op).operation ∧ i.operand.mode = (descriptor op).mode ∧
    i.length = 1 + (descriptor op).mode.operandBytes ∧ i.length + rest.length = 3 ∧
    ∀ j : Instr, j.opcode = op → j.operation = (descriptor op).operation ∧ j.operand.mode = (descriptor op).mode

/-- For every opcode byte: the descriptor's extra-cycle-on-cross mark is set exactly when the operation is one of LDA LDX LDY
ADC SBC AND ORA EOR CMP LAX LAS NOP and the mode is AbsoluteIndexedX, AbsoluteIndexedY or IndirectIndexedY; the
read-modify-write mark is set exactly when the operation is one of ASL LSR ROL ROR INC DEC SLO RLA SRE RRA DCP ISC and the
mode is not Accumulator; only JAM has no base cycle count. (derived: R94, R95, R457) -/
def Obligations.DescriptorsMarkCrossingAndModify : Prop :=
  ∀ op : Byte,
    ((descriptor op).extraOnCross = true ↔
      (descriptor op).operation ∈
        [Operation.lda, .ldx, .ldy, .adc, .sbc, .and, .ora, .eor, .cmp, .lax, .las, .nop] ∧
      (descriptor op).mode ∈ [Mode.absoluteIndexedX, .absoluteIndexedY, .indirectIndexedY]) ∧
    ((descriptor op).rmw = true ↔
      (descriptor op).operation ∈
        [Operation.asl, .lsr, .rol, .ror, .inc, .dec, .slo, .rla, .sre, .rra, .dcp, .isc] ∧
      (descriptor op).mode ≠ .accumulator) ∧
    ((descriptor op).baseCycles = none ↔ (descriptor op).operation = .jam)

/-- Every instruction is well-formed; a store has a memory operand; a read-modify-write operation has a memory operand or is an
accumulator shift; a reading operation has a memory operand, is immediate, or is the implied NOP. So an address is never
asked of the Implied, Accumulator or Immediate mode. (derived: R113, R402) -/
def Obligations.AddressingOperationsHaveAddresses : Prop :=
  ∀ i : Instr, i.wellFormed = true ∧
    (i.operation.accessClass = some .write → ∃ m, i.operand = .memory m) ∧
    (i.operation.accessClass = some .readModifyWrite →
      (∃ m, i.operand = .memory m) ∨
      i.operand = .accumulator ∧ i.operation ∈ [Operation.asl, .lsr, .rol, .ror]) ∧
    (i.operation.accessClass = some .read →
      (∃ m, i.operand = .memory m) ∨ (∃ v, i.operand = .immediate v) ∨
      i.operand = .implied ∧ i.operation = .nop)

/-- The words A9 42 (LDA #$42), 9D 34 12 (STA $1234,X), 71 80 (ADC ($80),Y), 6A (ROR A), 6C FF 30 (JMP ($30FF)), D0 FA (BNE -6),
00 (BRK), 28 (PLP), 96 01 (STX $01,Y), 43 10 (SRE ($10,X)), 9E F0 12 (SHX $12F0,Y), 89 FF (NOP #$FF), EB 01 (SBC #$01) and
02 (JAM) decode to those instructions, with little-endian operands. (derived: R90, R92, R95) -/
def Obligations.SampleWordsDecode : Prop :=
  (∀ p ∈ ([([0xA9, 0x42], .ldaImm 0x42), ([0x9D, 0x34, 0x12], .staAbx 0x1234), ([0x71, 0x80], .adcIzy 0x80),
      ([0x6A], .rorAcc), ([0x6C, 0xFF, 0x30], .jmpInd 0x30FF), ([0xD0, 0xFA], .bne 0xFA), ([0x00], .brk),
      ([0x28], .plp), ([0x96, 0x01], .stxZpy 0x01), ([0x43, 0x10], .sreIzx 0x10), ([0x9E, 0xF0, 0x12], .shx 0x12F0),
      ([0x89, 0xFF], .nopImm89 0xFF), ([0xEB, 0x01], .sbcImmEB 0x01), ([0x02], .jam02)] : List (List Byte × Instr)),
    decode p.1 = .ok (p.2, []))

/-- Let the host's call at this boundary be a step with levels irq and nmi. If the core is not halted and takes no interrupt
(interrupts are held off, or no NMI edge is pending or arriving and irq is 0 or masked by iPoll), and the bytes at PC, PC+1,
PC+2 decode to i, then the step is exec of i in the same state except that the input levels and the host queue are those of
this call, nmiPrev is the nmi level, and nmiPending holds the latched edge. All PC movement and every register change is
exec's. (derived: R42, R41, R90, R409) -/
def Obligations.StepRunsDecodedInstruction : Prop :=
  ∀ (s : State) (irq nmi : Bool) (queue : List HostEvent) (i : Instr) (rest : List Byte),
    s.Inputs irq nmi queue → s.halted = false →
    (s.pollOk = false ∨
      (s.nmiPending || (nmi && !s.nmiPrev)) = false ∧ (irq = false ∨ s.iPoll = true)) →
    decode [s.peek s.pc, s.peek (s.pc + 1), s.peek (s.pc + 2)] = .ok (i, rest) →
    step s = exec i { s.withInputs irq nmi queue with
      nmiPrev := nmi, nmiPending := s.nmiPending || (nmi && !s.nmiPrev) }

/-- JAM has exactly its twelve opcode bytes. In every state exec of a JAM answers a next state with outcome HALTED, 1 cycle, the
one-entry trace of its opcode fetch, PC one further, halted set, and every other register, flag, hidden bit and byte of
memory as before. In every halted state a step with any levels answers the same state with outcome HALTED, 0 cycles and an
empty trace (no interrupt is taken, no NMI edge is latched, nmiPrev stays; only the inputs and the report change). A reset
call in a halted state answers a state that is not halted. That pollOk and iPoll stay over a JAM is inferred from the order
of R42, against the general words of R38 and R39 (log 8), and the event name of a halted step is the model's (log 9).
(derived: R290, R419, R36, R42) -/
def Obligations.JamHaltsUntilReset : Prop :=
  Encoded .jam
      [(0x02, .implied), (0x12, .implied), (0x22, .implied), (0x32, .implied), (0x42, .implied), (0x52, .implied),
        (0x62, .implied), (0x72, .implied), (0x92, .implied), (0xB2, .implied), (0xD2, .implied), (0xF2, .implied)] ∧
  (∀ (i : Instr) (s : State), i.operation = .jam → ∃ t, exec i s = .next t ∧ s.SameMemory t ∧
    t.regs = { s.regs with pc := s.pc + 1 } ∧ t.hidden = { s.hidden with halted := true } ∧
    t.platform = s.platform ∧ t.outcome = .halted ∧ t.event = .instruction i.opcode ∧ t.cycles = 1 ∧
    t.trace = [⟨.read, s.pc, i.opcode⟩]) ∧
  (∀ (s : State) (irq nmi : Bool) (queue : List HostEvent), s.Inputs irq nmi queue → s.halted = true →
    step s = .next { s.withInputs irq nmi queue with outcome := .halted, event := .idle, cycles := 0, trace := [] }) ∧
  (∀ (s : State) (queue : List HostEvent), s.host = .reset :: queue → s.halted = true →
    ∃ t, step s = .next t ∧ t.halted = false)

/-- With the canonical memory: if the core is not halted, interrupts may be taken, and an NMI edge is pending or arrives at this
boundary, then the step answers a next state whatever I, iPoll and irq are: PC's high byte, PC's low byte and P with B = 0
are pushed, SP drops by 3, I is set and no other flag changes, PC is the word at FFFA, nmiPending is cleared, pollOk is 0
and iPoll is 1; A, X, Y and every byte outside the three pushes stay; 7 cycles with the trace of the entry sequence.
(derived: R412, R408, R413, R27) -/
def Obligations.NmiEntry : Prop :=
  ∀ (s : State) (irq nmi : Bool) (queue : List HostEvent), s.mem.wf = true → s.Inputs irq nmi queue →
    s.halted = false → s.pollOk = true → (s.nmiPending = true ∨ nmi = true ∧ s.nmiPrev = false) →
    ∃ t, step s = .next t ∧ s.Pushed t [hiByte s.pc, loByte s.pc, s.flags.pread false] ∧
      t.regs = { s.regs with
        sp := s.sp - 3, pc := wordOf (s.peek 0xFFFB#16) (s.peek 0xFFFA#16), flags := { s.flags with i := true } } ∧
      t.hidden = { halted := false, nmiPrev := nmi, nmiPending := false, iPoll := true, pollOk := false } ∧
      t.platform = (s.withInputs irq nmi queue).platform ∧ t.outcome = .ok ∧ t.event = .nmi ∧ t.cycles = 7 ∧
      t.trace = [s.rd s.pc, s.rd s.pc, wr (stackAddr s.sp) (hiByte s.pc), wr (stackAddr (s.sp - 1)) (loByte s.pc),
        wr (stackAddr (s.sp - 2)) (s.flags.pread false), s.rd 0xFFFA#16, s.rd 0xFFFB#16]

/-- With the canonical memory: if the core is not halted, interrupts may be taken, no NMI is pending or arriving, irq is 1 and
iPoll is 0, then the step answers a next state: PC's high byte, PC's low byte and P with B = 0 are pushed, SP drops by 3, I
is set and no other flag changes (D among them), PC is the word at FFFE, pollOk is 0 and iPoll is 1; A, X, Y and every byte
outside the three pushes stay; 7 cycles with the trace of the entry sequence. (derived: R412, R407, R413, R410, R27) -/
def Obligations.IrqEntry : Prop :=
  ∀ (s : State) (nmi : Bool) (queue : List HostEvent), s.mem.wf = true → s.Inputs true nmi queue →
    s.halted = false → s.pollOk = true → s.nmiPending = false → (nmi = false ∨ s.nmiPrev = true) → s.iPoll = false →
    ∃ t, step s = .next t ∧ s.Pushed t [hiByte s.pc, loByte s.pc, s.flags.pread false] ∧
      t.regs = { s.regs with
        sp := s.sp - 3, pc := wordOf (s.peek 0xFFFF#16) (s.peek 0xFFFE#16), flags := { s.flags with i := true } } ∧
      t.hidden = { halted := false, nmiPrev := nmi, nmiPending := false, iPoll := true, pollOk := false } ∧
      t.platform = (s.withInputs true nmi queue).platform ∧ t.outcome = .ok ∧ t.event = .irq ∧ t.cycles = 7 ∧
      t.trace = [s.rd s.pc, s.rd s.pc, wr (stackAddr s.sp) (hiByte s.pc), wr (stackAddr (s.sp - 1)) (loByte s.pc),
        wr (stackAddr (s.sp - 2)) (s.flags.pread false), s.rd 0xFFFE#16, s.rd 0xFFFF#16]

/-- For every step that answers a next state: its event is RESET exactly when the host called reset; with levels irq and nmi,
its event is the halted step's exactly when the core was halted, NMI exactly when it was not halted, interrupts might be
taken and an NMI edge was pending or arrived, IRQ exactly when moreover no NMI was due, irq was 1 and iPoll 0; in every
other case it is an instruction. The event names are the model's report (log 9). (derived: R409, R410, R407, R408, R419,
R42) -/
def Obligations.EventPriority : Prop :=
  (∀ (s t : State) (queue : List HostEvent), s.host = .reset :: queue → step s = .next t → t.event = .reset) ∧
  ∀ (s t : State) (irq nmi : Bool) (queue : List HostEvent), s.Inputs irq nmi queue → step s = .next t →
    t.event ≠ .reset ∧ (t.event = .idle ↔ s.halted = true) ∧
    (t.event = .nmi ↔
      s.halted = false ∧ s.pollOk = true ∧ (s.nmiPending = true ∨ nmi = true ∧ s.nmiPrev = false)) ∧
    (t.event = .irq ↔
      s.halted = false ∧ s.pollOk = true ∧ ¬ (s.nmiPending = true ∨ nmi = true ∧ s.nmiPrev = false) ∧
      irq = true ∧ s.iPoll = false)

/-- For every step of a core that is not halted and answers a next state: nmiPrev becomes the nmi level of this step; nmiPending
afterwards is 1 exactly when the step was not an NMI entry and either it was 1 before or nmi rose from 0 to 1. So an NMI
held at 1 is latched once, an edge during a pending NMI is merged with it, and no instruction touches the latch. (derived:
R408, R37, R42) -/
def Obligations.NmiEdgeIsLatchedUntilTaken : Prop :=
  ∀ (s t : State) (irq nmi : Bool) (queue : List HostEvent), s.Inputs irq nmi queue → s.halted = false →
    step s = .next t →
    t.nmiPrev = nmi ∧
    (t.nmiPending = true ↔ t.event ≠ .nmi ∧ (s.nmiPending = true ∨ nmi = true ∧ s.nmiPrev = false))

/-- Whenever the host's next call is a reset, halted or not: the step answers a next state with outcome OK in 7 cycles: halted
and nmiPending are cleared, nmiPrev stays, I is set, SP drops by 3, PC is the word at FFFC, pollOk is 0 and iPoll is 1; A,
X, Y, N, V, D, Z, C, the parameters, the input levels and every byte of memory stay; the seven accesses are two reads at PC,
three reads on the stack page at SP, SP-1, SP-2, and the two vector reads; nothing is written. That a reset call leaves the
input levels is the model's choice (log 4). (derived: R450, R451, R452) -/
def Obligations.ResetSequence : Prop :=
  ∀ (s : State) (queue : List HostEvent), s.host = .reset :: queue →
    ∃ t, step s = .next t ∧ s.SameMemory t ∧
      t.regs = { s.regs with
        sp := s.sp - 3, pc := wordOf (s.peek 0xFFFD#16) (s.peek 0xFFFC#16), flags := { s.flags with i := true } } ∧
      t.hidden = { halted := false, nmiPrev := s.nmiPrev, nmiPending := false, iPoll := true, pollOk := false } ∧
      t.platform = { s.platform with host := queue } ∧ t.outcome = .ok ∧ t.event = .reset ∧ t.cycles = 7 ∧
      t.trace = [s.rd s.pc, s.rd s.pc, s.rd (stackAddr s.sp), s.rd (stackAddr (s.sp - 1)), s.rd (stackAddr (s.sp - 2)),
        s.rd 0xFFFC#16, s.rd 0xFFFD#16]

/-- For any draws, memory, read-only regions and parameters, the state after the power-on reset has A, X, Y, N, V, D, Z, C and
nmiPrev as drawn, SP the draw minus 3, PC the word at FFFC, I = 1, halted = 0, nmiPending = 0, iPoll = 1, pollOk = 0 and the
memory given. State.reset has I = 1, halted = 0, nmiPending = 0, iPoll = 1, pollOk = 0, DECIMAL_MODE NMOS, both magic
constants EE and 7 cycles reported. The other register values of State.reset are the model's choice (log 3) and are not
stated. (derived: R453, R452, R9) -/
def Obligations.PowerOnState : Prop :=
  (∀ (p : PowerOn) (mem : Memory) (readOnly : List Region) (config : Config),
    (powerUp p mem readOnly config).regs =
      { a := p.a, x := p.x, y := p.y, sp := p.sp - 3,
        pc := wordOf (Memory.read mem 0xFFFD) (Memory.read mem 0xFFFC),
        flags := { n := p.n, v := p.v, d := p.d, i := true, z := p.z, c := p.c } } ∧
    (powerUp p mem readOnly config).hidden =
      { halted := false, nmiPrev := p.nmiPrev, nmiPending := false, iPoll := true, pollOk := false } ∧
    (powerUp p mem readOnly config).mem = mem) ∧
  State.reset.flags.i = true ∧ State.reset.halted = false ∧ State.reset.nmiPending = false ∧
  State.reset.iPoll = true ∧ State.reset.pollOk = false ∧ State.reset.outcome = .ok ∧ State.reset.cycles = 7 ∧
  State.reset.config = { decimalMode := .nmos, aneMagic := 0xEE, lxaMagic := 0xEE }

/-- State.reset has its memory in canonical form, as many cycles reported as accesses traced, halted in agreement with the
outcome, and I and iPoll set while interrupts are held off. (derived: R452, R459, R43) -/
def Obligations.InvHoldsAtReset : Prop :=
  State.reset.Inv

/-- From every state that meets the invariant, whatever the host calls: if the step answers a next state, that state meets it
too: memory is in canonical form, the reported cycle count is the length of the reported trace, the core is halted exactly
when the outcome is HALTED, and while no interrupt may be taken both I and iPoll are 1. (That form of memory is the model's
own, log 1.) (derived: R459, R36, R43, R38, R39, R42) -/
def Obligations.StepKeepsInv : Prop :=
  ∀ s t : State, s.Inv → step s = .next t → t.Inv

/-- For every state and every step that answers a next state, instructions in every mode with the page crossed or not, branches
taken or not, interrupt entries, resets and halted steps alike: the reported cycle count, which is computed from the
descriptor, the page crossing and the branch outcome, equals the number of bus accesses in the trace. (stated: R459) -/
def Obligations.CyclesEqualTraceLength : Prop :=
  ∀ s t : State, step s = .next t → t.cycles = t.trace.length

/-- Whenever exec of an instruction answers a next state: the cycle count is 1 for JAM, and otherwise the base count of its
opcode's descriptor, plus 1 when the descriptor is marked extra-cycle-on-cross and its memory operand crosses a page, plus,
for a branch that is taken, 1 when the target is on the page of the next instruction and 2 when it is not. (derived: R455,
R457, R458, R290) -/
def Obligations.RealizedCycleCount : Prop :=
  ∀ (i : Instr) (s t : State), exec i s = .next t →
    t.cycles = match (descriptor i.opcode).baseCycles with
      | none => 1
      | some base => base +
        (match i.operand with
          | .memory m => if (descriptor i.opcode).extraOnCross = true ∧ pageCrossed m s = true then 1 else 0
          | .relative _ =>
            if branchTaken i.operation s.flags = true then
              if hiByte t.pc = hiByte (s.nextPc i) then 1 else 2
            else 0
          | .implied | .accumulator | .immediate _ | .indirect _ => 0)

/-- With the canonical memory. (1) For every address in a region that rejects writes and every step that answers a next state:
the byte at that address reads as before, and the regions are as before. (2) Whatever regions reject writes: if the step
answers a next state t where the bus accepts every write, it answers a next state u where it rejects those, with the
outcome, event, cycle count, hidden state, A, X, Y, SP and flags of t; every write in the trace of t is in the trace of u;
and unless the instruction is JSR, which reads its last byte back after its pushes, u has the PC and the whole trace of t.
(The regions are the model's form of the bus's answer, log 2.) (derived: R62, R403, R17, R252) -/
def Obligations.RejectedWritesChangeNothing : Prop :=
  (∀ (s t : State) (a : Word), s.mem.wf = true → s.writable a = false → step s = .next t →
    t.peek a = s.peek a ∧ t.readOnly = s.readOnly) ∧
  ∀ s t : State, s.mem.wf = true → step { s with readOnly := [] } = .next t →
    ∃ u, step s = .next u ∧ u.outcome = t.outcome ∧ u.event = t.event ∧ u.cycles = t.cycles ∧ u.hidden = t.hidden ∧
      u.regs = { t.regs with pc := u.pc } ∧ (∀ (a : Word) (v : Byte), wr a v ∈ t.trace → wr a v ∈ u.trace) ∧
      (t.event ≠ .instruction 0x20#8 → u.pc = t.pc ∧ u.trace = t.trace)

/-- With the canonical memory, for every step that answers a next state and every address: if the byte there reads differently
after the step, then the step's trace contains a write at that address of the value it now reads, and the bus accepts writes
there. It holds of the model's bus: that memory changes by nothing but the core's accepted writes is the model's inference
from the scope (log 5), that acceptance is fixed by the address its choice (log 2); the spec leaves both to the bus.
(derived: R44, R62) -/
def Obligations.MemoryChangesOnlyAsTraced : Prop :=
  ∀ (s t : State) (a : Word), s.mem.wf = true → step s = .next t → t.peek a ≠ s.peek a →
    wr a (t.peek a) ∈ t.trace ∧ s.writable a = true

/-- exec of an instruction is refused exactly when DECIMAL_MODE is REJECT, D = 1 and the operation is ADC, SBC (both encodings),
RRA, ISC or ARR, and then with the reason decimalUnsupported; in every other case it answers a next state. Under
DECIMAL_MODE = NMOS every step, from every state, answers a next state. That the outcome REFUSED is the answer that ends the
run is the model's inference (log 7). (derived: R183, R405, R42, R43) -/
def Obligations.RefusalOnlyInRejectMode : Prop :=
  (∀ (i : Instr) (s : State),
    if s.config.decimalMode = .reject ∧ s.flags.d = true ∧
        i.operation ∈ [Operation.adc, .sbc, .rra, .isc, .arr] then exec i s = .refused .decimalUnsupported
    else ∃ t, exec i s = .next t) ∧
  ∀ s : State, s.config.decimalMode = .nmos → ∃ t, step s = .next t

/-- Whenever exec of an instruction answers a next state: if V changed, the operation is ADC, SBC, BIT, CLV, PLP, RTI, RRA, ISC
or ARR; if D changed, CLD, SED, PLP or RTI; if I changed, CLI, SEI, PLP, RTI or BRK; if C changed, ADC, SBC, CMP, CPX, CPY,
ASL, LSR, ROL, ROR, CLC, SEC, PLP, RTI, SLO, RLA, SRE, RRA, DCP, ISC, ANC, ALR, ARR or AXS. (derived: R30, R31, R32, R34) -/
def Obligations.FlagWriters : Prop :=
  ∀ (i : Instr) (s t : State), exec i s = .next t →
    (t.flags.v ≠ s.flags.v → i.operation ∈
      [Operation.adc, .sbc, .bit, .clv, .plp, .rti, .rra, .isc, .arr]) ∧
    (t.flags.d ≠ s.flags.d → i.operation ∈ [Operation.cld, .sed, .plp, .rti]) ∧
    (t.flags.i ≠ s.flags.i → i.operation ∈ [Operation.cli, .sei, .plp, .rti, .brk]) ∧
    (t.flags.c ≠ s.flags.c → i.operation ∈
      [Operation.adc, .sbc, .cmp, .cpx, .cpy, .asl, .lsr, .rol, .ror, .clc, .sec, .plp, .rti, .slo, .rla, .sre, .rra,
        .dcp, .isc, .anc, .alr, .arr, .axs])

/-- Whenever exec of an instruction answers a next state: if A changed, the operation is LDA PLA TXA TYA ADC SBC AND ORA EOR, an
accumulator ASL LSR ROL ROR, or SLO RLA SRE RRA ISC LAX ANC ALR ARR XAA LAS; if X changed, LDX TAX TSX INX DEX LAX LAS or
AXS; if Y changed, LDY TAY INY or DEY; if SP changed, TXS PHA PHP PLA PLP JSR RTS BRK RTI TAS or LAS. (derived: R20) -/
def Obligations.RegisterWriters : Prop :=
  ∀ (i : Instr) (s t : State), exec i s = .next t →
    (t.a ≠ s.a → i.operation ∈
      [Operation.lda, .pla, .txa, .tya, .adc, .sbc, .and, .ora, .eor, .slo, .rla, .sre, .rra, .isc, .lax, .anc, .alr,
        .arr, .xaa, .las] ∨ i.operand = .accumulator ∧ i.operation ∈ [Operation.asl, .lsr, .rol, .ror]) ∧
    (t.x ≠ s.x → i.operation ∈ [Operation.ldx, .tax, .tsx, .inx, .dex, .lax, .las, .axs]) ∧
    (t.y ≠ s.y → i.operation ∈ [Operation.ldy, .tay, .iny, .dey]) ∧
    (t.sp ≠ s.sp → i.operation ∈ [Operation.txs, .pha, .php, .pla, .plp, .jsr, .rts, .brk, .rti, .tas, .las])

/-- For all flags f and every b: the byte read or pushed has N in bit 7, V in bit 6, 1 in bit 5, b in bit 4, D in bit 3, I in
bit 2, Z in bit 1, C in bit 0. Loading P from a byte takes the six flags from those bits and discards bits 5 and 4; so
loading what was pushed gives the flags back. (derived: R26, R27, R28) -/
def Obligations.StatusByteLayout : Prop :=
  (∀ (f : Flags) (b : Bool), [7, 6, 5, 4, 3, 2, 1, 0].map (f.pread b).getLsbD = [f.n, f.v, true, b, f.d, f.i, f.z, f.c]) ∧
  (∀ v : Byte, Flags.pwrite v =
    { n := v.getLsbD 7, v := v.getLsbD 6, d := v.getLsbD 3, i := v.getLsbD 2, z := v.getLsbD 1, c := v.getLsbD 0 }) ∧
  ∀ (f : Flags) (b : Bool), Flags.pwrite (f.pread b) = f

/-- In every state, for every operand byte or word: zp is the byte itself; zpx and zpy add X or Y modulo 256; abs is the word;
abx and aby add X or Y modulo 65536; izx takes the little-endian word at the zero-page address operand plus X modulo 256,
whose high byte is one further modulo 256; izy takes the little-endian word at the zero-page operand, its high byte one
further modulo 256, and adds Y modulo 65536. (derived: R117, R118, R119, R120, R121, R122, R72) -/
def Obligations.EffectiveAddresses : Prop :=
  ∀ (s : State) (ad : Byte) (w : Word),
    let pointer : Nat → Nat := fun p =>
      (s.peek (BitVec.ofNat 16 (p % 256))).toNat + 256 * (s.peek (BitVec.ofNat 16 ((p + 1) % 256))).toNat
    (effectiveAddress (.zp ad) s).toNat = ad.toNat ∧
    (effectiveAddress (.zpx ad) s).toNat = (ad.toNat + s.x.toNat) % 256 ∧
    (effectiveAddress (.zpy ad) s).toNat = (ad.toNat + s.y.toNat) % 256 ∧
    (effectiveAddress (.abs w) s).toNat = w.toNat ∧
    (effectiveAddress (.abx w) s).toNat = (w.toNat + s.x.toNat) % 65536 ∧
    (effectiveAddress (.aby w) s).toNat = (w.toNat + s.y.toNat) % 65536 ∧
    (effectiveAddress (.izx ad) s).toNat = pointer (ad.toNat + s.x.toNat) ∧
    (effectiveAddress (.izy ad) s).toNat = (pointer ad.toNat + s.y.toNat) % 65536

/-- In every state: abx and aby report a page crossing exactly when the low byte of the base plus the index reaches 256, izy
exactly when the pointer's low byte plus Y does; zp, zpx, zpy, abs and izx never do. The address read before the correction
has the base's high byte and the sum of the low bytes modulo 256; it is the effective address when no page is crossed, and
0x0100 below it modulo 65536 when one is. (derived: R125, R120, R122, R118, R121) -/
def Obligations.PageCrossingAndUncorrectedAddress : Prop :=
  ∀ (s : State) (ad : Byte) (w : Word),
    (pageCrossed (.abx w) s = true ↔ 256 ≤ w.toNat % 256 + s.x.toNat) ∧
    (pageCrossed (.aby w) s = true ↔ 256 ≤ w.toNat % 256 + s.y.toNat) ∧
    (pageCrossed (.izy ad) s = true ↔ 256 ≤ (s.peek (zext16 ad)).toNat + s.y.toNat) ∧
    pageCrossed (.zp ad) s = false ∧ pageCrossed (.zpx ad) s = false ∧ pageCrossed (.zpy ad) s = false ∧
    pageCrossed (.abs w) s = false ∧ pageCrossed (.izx ad) s = false ∧
    (unfixedAddress (.abx w) s).toNat = w.toNat / 256 * 256 + (w.toNat + s.x.toNat) % 256 ∧
    (unfixedAddress (.aby w) s).toNat = w.toNat / 256 * 256 + (w.toNat + s.y.toNat) % 256 ∧
    (unfixedAddress (.izy ad) s).toNat = (s.peek (zext16 (ad + 1))).toNat * 256 +
      ((s.peek (zext16 ad)).toNat + s.y.toNat) % 256 ∧
    ∀ m : MemOperand, unfixedAddress m s =
      if pageCrossed m s = true then effectiveAddress m s - 0x0100#16 else effectiveAddress m s

/-- LDA, LDX and LDY have exactly the opcode bytes and modes of their rules. In every state exec of each, in every mode, answers
a next state in which A (LDA), X (LDX) or Y (LDY) is the operand (the immediate byte, or the byte at the effective address),
N is its bit 7, Z says whether it is 0, PC is past the instruction, every other register, flag and byte of memory is as
before, and the bus saw exactly the mode's read sequence, one access per cycle. (stated: R150, R151, R152) -/
def Obligations.LoadsWriteRegister : Prop :=
  (Encoded .lda
      [(0xA9, .immediate), (0xA5, .zeropage), (0xB5, .zeropageIndexedX), (0xAD, .absolute),
        (0xBD, .absoluteIndexedX), (0xB9, .absoluteIndexedY), (0xA1, .indexedIndirectX), (0xB1, .indirectIndexedY)] ∧
    Encoded .ldx
      [(0xA2, .immediate), (0xA6, .zeropage), (0xB6, .zeropageIndexedY), (0xAE, .absolute),
        (0xBE, .absoluteIndexedY)] ∧
    Encoded .ldy
      [(0xA0, .immediate), (0xA4, .zeropage), (0xB4, .zeropageIndexedX), (0xAC, .absolute),
        (0xBC, .absoluteIndexedX)]) ∧
  (∀ (i : Instr) (s : State), i.operation = .lda → ∃ v t, s.operandValue i.operand = some v ∧
    exec i s = .next t ∧ s.SameMemory t ∧
    s.Ran t i { s.regs with a := v, pc := s.nextPc i, flags := { s.flags with n := v.getLsbD 7, z := v == 0 } } s.flags.i (s.readTrace i)) ∧
  (∀ (i : Instr) (s : State), i.operation = .ldx → ∃ v t, s.operandValue i.operand = some v ∧
    exec i s = .next t ∧ s.SameMemory t ∧
    s.Ran t i { s.regs with x := v, pc := s.nextPc i, flags := { s.flags with n := v.getLsbD 7, z := v == 0 } } s.flags.i (s.readTrace i)) ∧
  (∀ (i : Instr) (s : State), i.operation = .ldy → ∃ v t, s.operandValue i.operand = some v ∧
    exec i s = .next t ∧ s.SameMemory t ∧
    s.Ran t i { s.regs with y := v, pc := s.nextPc i, flags := { s.flags with n := v.getLsbD 7, z := v == 0 } } s.flags.i (s.readTrace i))

/-- STA, STX, STY and SAX have exactly the opcode bytes and modes of their rules. With the canonical memory exec of each, in
every mode, answers a next state in which the byte at the effective address is A, X, Y or A AND X where the bus accepts the
write, every other byte of memory, every register and every flag is as before, PC is past the instruction, and the bus saw
exactly the mode's write sequence (abx, aby and izy always with the read at the uncorrected address). (stated: R153, R154,
R155, R309) -/
def Obligations.StoresWriteMemory : Prop :=
  (Encoded .sta
      [(0x85, .zeropage), (0x95, .zeropageIndexedX), (0x8D, .absolute), (0x9D, .absoluteIndexedX),
        (0x99, .absoluteIndexedY), (0x81, .indexedIndirectX), (0x91, .indirectIndexedY)] ∧
    Encoded .stx
      [(0x86, .zeropage), (0x96, .zeropageIndexedY), (0x8E, .absolute)] ∧
    Encoded .sty
      [(0x84, .zeropage), (0x94, .zeropageIndexedX), (0x8C, .absolute)] ∧
    Encoded .sax
      [(0x87, .zeropage), (0x97, .zeropageIndexedY), (0x8F, .absolute), (0x83, .indexedIndirectX)]) ∧
  ∀ (i : Instr) (s : State) (v : Byte), s.mem.wf = true →
    (i.operation = .sta ∧ v = s.a ∨ i.operation = .stx ∧ v = s.x ∨ i.operation = .sty ∧ v = s.y ∨
      i.operation = .sax ∧ v = s.a &&& s.x) →
    ∃ m t, i.operand = .memory m ∧ exec i s = .next t ∧ s.Stored t (effectiveAddress m s) v ∧
      s.Ran t i { s.regs with pc := s.nextPc i } s.flags.i (s.writeTrace i m (effectiveAddress m s) v)

/-- Each transfer has exactly its opcode byte, implied. In every state exec of it answers a next state in which the destination
register is the source register, N and Z are from the byte moved (TXS leaves every flag), PC is one further, every other
register, flag and byte of memory is as before, and the bus saw the opcode fetch and the dummy read of the next byte: 2
cycles. (stated: R156, R157, R158, R159, R160, R161) -/
def Obligations.TransfersMoveRegisters : Prop :=
  (Encoded .tax
      [(0xAA, .implied)] ∧
    Encoded .tay
      [(0xA8, .implied)] ∧
    Encoded .txa
      [(0x8A, .implied)] ∧
    Encoded .tya
      [(0x98, .implied)] ∧
    Encoded .tsx
      [(0xBA, .implied)] ∧
    Encoded .txs
      [(0x9A, .implied)]) ∧
  ∀ (i : Instr) (s : State) (r : Regs),
    (i = .tax ∧ r = { s.regs with x := s.a, flags := { s.flags with n := s.a.getLsbD 7, z := s.a == 0 } } ∨
      i = .tay ∧ r = { s.regs with y := s.a, flags := { s.flags with n := s.a.getLsbD 7, z := s.a == 0 } } ∨
      i = .txa ∧ r = { s.regs with a := s.x, flags := { s.flags with n := s.x.getLsbD 7, z := s.x == 0 } } ∨
      i = .tya ∧ r = { s.regs with a := s.y, flags := { s.flags with n := s.y.getLsbD 7, z := s.y == 0 } } ∨
      i = .tsx ∧ r = { s.regs with x := s.sp, flags := { s.flags with n := s.sp.getLsbD 7, z := s.sp == 0 } } ∨
      i = .txs ∧ r = { s.regs with sp := s.x }) →
    ∃ t, exec i s = .next t ∧ s.SameMemory t ∧ s.Ran t i { r with pc := s.pc + 1 } s.flags.i (s.readTrace i)

/-- PHA and PHP have exactly their opcode bytes. With the canonical memory exec of each answers a next state in which the byte
at 0x0100 + SP is A (PHA) or P with bits 5 and 4 set (PHP) where the bus accepts the write, SP is one less modulo 256, PC is
one further, every other register, every flag and every other byte of memory is as before, and the bus saw the opcode fetch,
the dummy read of the next byte and the write. (stated: R162, R163) -/
def Obligations.PushesStoreOnStack : Prop :=
  (Encoded .pha
      [(0x48, .implied)] ∧
    Encoded .php
      [(0x08, .implied)]) ∧
  ∀ (i : Instr) (s : State) (v : Byte), s.mem.wf = true →
    (i = .pha ∧ v = s.a ∨ i = .php ∧ v = s.flags.pread true) →
    ∃ t, exec i s = .next t ∧ s.Stored t (stackAddr s.sp) v ∧ (stackAddr s.sp).toNat = 0x0100 + s.sp.toNat ∧
      s.Ran t i { s.regs with sp := s.sp - 1, pc := s.pc + 1 } s.flags.i
        [⟨.read, s.pc, i.opcode⟩, s.rd (s.pc + 1), wr (stackAddr s.sp) v]

/-- PLA and PLP have exactly their opcode bytes. In every state exec of each answers a next state in which SP is one more modulo
256; for PLA, A is the byte at 0x0100 + the new SP and N and Z are from it; for PLP the six flags are loaded from that byte,
bits 5 and 4 discarded, and the next IRQ poll still uses the I from before; PC is one further; everything else and all of
memory is as before; the bus saw the opcode fetch, the dummy reads of the next byte and of the stack at the old SP, and the
read. (stated: R164, R165) -/
def Obligations.PullsLoadFromStack : Prop :=
  (Encoded .pla
      [(0x68, .implied)] ∧
    Encoded .plp
      [(0x28, .implied)]) ∧
  ∀ (i : Instr) (s : State) (r : Regs),
    let v := s.peek (stackAddr (s.sp + 1))
    (i = .pla ∧ r = { s.regs with a := v, flags := { s.flags with n := v.getLsbD 7, z := v == 0 } } ∨
      i = .plp ∧ r = { s.regs with flags :=
        { n := v.getLsbD 7, v := v.getLsbD 6, d := v.getLsbD 3, i := v.getLsbD 2, z := v.getLsbD 1, c := v.getLsbD 0 } }) →
    ∃ t, exec i s = .next t ∧ s.SameMemory t ∧
      s.Ran t i { r with sp := s.sp + 1, pc := s.pc + 1 } s.flags.i
        [⟨.read, s.pc, i.opcode⟩, s.rd (s.pc + 1), s.rd (stackAddr s.sp), s.rd (stackAddr (s.sp + 1))]

/-- ADC has exactly the opcode bytes and modes of its rule. Unless D = 1 under DECIMAL_MODE = REJECT, exec of it answers a next
state in which A, N, V, Z and C are what the add rule gives for A, the operand and C: with D = 0 the sum modulo 256, C its
bit 8, V when the operands have one sign and the result the other; with D = 1 the NMOS decimal algorithm, Z from the binary
sum, N and V from the value before the high-digit adjust. D, I, every other register and all of memory are as before; the
bus saw the mode's read sequence. (derived: R184, R180, R181) -/
def Obligations.AddWithCarry : Prop :=
  Encoded .adc
      [(0x69, .immediate), (0x65, .zeropage), (0x75, .zeropageIndexedX), (0x6D, .absolute),
        (0x7D, .absoluteIndexedX), (0x79, .absoluteIndexedY), (0x61, .indexedIndirectX), (0x71, .indirectIndexedY)] ∧
  ∀ (i : Instr) (s : State), i.operation = .adc → (s.config.decimalMode = .nmos ∨ s.flags.d = false) →
    ∃ v t, s.operandValue i.operand = some v ∧ exec i s = .next t ∧ s.SameMemory t ∧
      s.Ran t i { s.regs with
        a := (addRule s.a v s.flags).1, pc := s.nextPc i, flags := (addRule s.a v s.flags).2 } s.flags.i (s.readTrace i)

/-- SBC has exactly the opcode bytes and modes of its two rules. Unless D = 1 under DECIMAL_MODE = REJECT, exec of it answers a
next state in which A, N, V, Z and C are what the subtract rule gives: C = 1 exactly when A >= M + (1 - C) as integers, V
exactly when sint8(A) - sint8(M) - (1 - C) leaves -128..127, N and Z of the binary difference whatever D is; A is that
difference modulo 256 when D = 0 and the NMOS decimal result when D = 1. D, I, every other register and all of memory are as
before; the bus saw the mode's read sequence. (derived: R185, R182, R320) -/
def Obligations.SubtractWithBorrow : Prop :=
  Encoded .sbc
      [(0xE9, .immediate), (0xE5, .zeropage), (0xF5, .zeropageIndexedX), (0xED, .absolute),
        (0xFD, .absoluteIndexedX), (0xF9, .absoluteIndexedY), (0xE1, .indexedIndirectX), (0xF1, .indirectIndexedY),
        (0xEB, .immediate)] ∧
  ∀ (i : Instr) (s : State), i.operation = .sbc → (s.config.decimalMode = .nmos ∨ s.flags.d = false) →
    ∃ v t, s.operandValue i.operand = some v ∧ exec i s = .next t ∧ s.SameMemory t ∧
      s.Ran t i { s.regs with
        a := (subRule s.a v s.flags).1, pc := s.nextPc i, flags := (subRule s.a v s.flags).2 } s.flags.i (s.readTrace i)

/-- With D = 1 and DECIMAL_MODE = NMOS, when A holds the two decimal digits of p and the operand those of q, p and q below 100:
after ADC, A holds the digits of (p + q + C) modulo 100 and C says whether the sum reached 100; after SBC, A holds the
digits of (p - q - (1 - C)) modulo 100 and C says that there was no borrow. For ADC the rule says so; for SBC it is inferred
from the algorithm. (derived: R181, R182, R184, R185) -/
def Obligations.DecimalArithmeticIsRightOnBcd : Prop :=
  ∀ (i : Instr) (s : State) (p q : Nat), s.flags.d = true → s.config.decimalMode = .nmos → p < 100 → q < 100 →
    s.a = bcd p → s.operandValue i.operand = some (bcd q) →
    (i.operation = .adc → ∃ t, exec i s = .next t ∧ t.a = bcd ((p + q + s.flags.c.toNat) % 100) ∧
      t.flags.c = decide (100 ≤ p + q + s.flags.c.toNat)) ∧
    (i.operation = .sbc → ∃ t, exec i s = .next t ∧ t.a = bcd ((p + 100 - q - (1 - s.flags.c.toNat)) % 100) ∧
      t.flags.c = decide (q + (1 - s.flags.c.toNat) ≤ p))

/-- AND, ORA and EOR have exactly the opcode bytes and modes of their rules. In every state exec of each, in every mode, answers
a next state in which A is A AND, OR or exclusive-OR the operand, N and Z are from the new A, PC is past the instruction,
every other register, flag and byte of memory is as before, and the bus saw the mode's read sequence. (stated: R186, R187,
R188) -/
def Obligations.LogicOperations : Prop :=
  (Encoded .and
      [(0x29, .immediate), (0x25, .zeropage), (0x35, .zeropageIndexedX), (0x2D, .absolute),
        (0x3D, .absoluteIndexedX), (0x39, .absoluteIndexedY), (0x21, .indexedIndirectX), (0x31, .indirectIndexedY)] ∧
    Encoded .ora
      [(0x09, .immediate), (0x05, .zeropage), (0x15, .zeropageIndexedX), (0x0D, .absolute),
        (0x1D, .absoluteIndexedX), (0x19, .absoluteIndexedY), (0x01, .indexedIndirectX), (0x11, .indirectIndexedY)] ∧
    Encoded .eor
      [(0x49, .immediate), (0x45, .zeropage), (0x55, .zeropageIndexedX), (0x4D, .absolute),
        (0x5D, .absoluteIndexedX), (0x59, .absoluteIndexedY), (0x41, .indexedIndirectX), (0x51, .indirectIndexedY)]) ∧
  ∀ (i : Instr) (s : State) (f : Byte → Byte),
    (i.operation = .and ∧ f = (s.a &&& ·) ∨ i.operation = .ora ∧ f = (s.a ||| ·) ∨ i.operation = .eor ∧ f = (s.a ^^^ ·)) →
    ∃ v t, s.operandValue i.operand = some v ∧ exec i s = .next t ∧ s.SameMemory t ∧
      s.Ran t i { s.regs with
        a := f v, pc := s.nextPc i, flags := { s.flags with n := (f v).getLsbD 7, z := f v == 0 } } s.flags.i (s.readTrace i)

/-- BIT has exactly its two opcode bytes. In every state exec of it answers a next state in which Z says whether A AND the byte
at the effective address is 0, N is bit 7 and V bit 6 of that byte, A and every other register, C, D, I and all of memory
are as before, PC is past the instruction, and the bus saw the mode's read sequence. (stated: R189) -/
def Obligations.BitTest : Prop :=
  Encoded .bit
      [(0x24, .zeropage), (0x2C, .absolute)] ∧
  ∀ (i : Instr) (s : State), i.operation = .bit → ∃ m t, i.operand = .memory m ∧ exec i s = .next t ∧ s.SameMemory t ∧
    let v := s.peek (effectiveAddress m s)
    s.Ran t i { s.regs with
      pc := s.nextPc i, flags := { s.flags with n := v.getLsbD 7, v := v.getLsbD 6, z := s.a &&& v == 0 } }
      s.flags.i (s.readTrace i)

/-- CMP, CPX and CPY have exactly the opcode bytes and modes of their rules. In every state, whatever D is, exec of each answers
a next state in which C says whether A, X or Y is at least the operand unsigned, N is bit 7 and Z the zero test of their
difference modulo 256, every register, V, D, I and all of memory are as before, PC is past the instruction, and the bus saw
the mode's read sequence. (stated: R190, R191, R192, R193) -/
def Obligations.ComparesSetFlags : Prop :=
  (Encoded .cmp
      [(0xC9, .immediate), (0xC5, .zeropage), (0xD5, .zeropageIndexedX), (0xCD, .absolute),
        (0xDD, .absoluteIndexedX), (0xD9, .absoluteIndexedY), (0xC1, .indexedIndirectX), (0xD1, .indirectIndexedY)] ∧
    Encoded .cpx
      [(0xE0, .immediate), (0xE4, .zeropage), (0xEC, .absolute)] ∧
    Encoded .cpy
      [(0xC0, .immediate), (0xC4, .zeropage), (0xCC, .absolute)]) ∧
  ∀ (i : Instr) (s : State) (r : Byte),
    (i.operation = .cmp ∧ r = s.a ∨ i.operation = .cpx ∧ r = s.x ∨ i.operation = .cpy ∧ r = s.y) →
    ∃ v t, s.operandValue i.operand = some v ∧ exec i s = .next t ∧ s.SameMemory t ∧
      s.Ran t i { s.regs with pc := s.nextPc i, flags := compareRule r v s.flags } s.flags.i (s.readTrace i)

/-- INC and DEC have exactly the opcode bytes and modes of their rules. With the canonical memory exec of each, in every mode,
answers a next state in which the byte at the effective address is one more (INC) or one less (DEC) modulo 256 where the bus
accepts the write, N and Z are from it, C, V and every other flag, every register and every other byte are as before, PC is
past the instruction, and the bus saw the operand read, written back unmodified, and written. (stated: R220, R221) -/
def Obligations.IncrementDecrementMemory : Prop :=
  (Encoded .inc
      [(0xE6, .zeropage), (0xF6, .zeropageIndexedX), (0xEE, .absolute), (0xFE, .absoluteIndexedX)] ∧
    Encoded .dec
      [(0xC6, .zeropage), (0xD6, .zeropageIndexedX), (0xCE, .absolute), (0xDE, .absoluteIndexedX)]) ∧
  ∀ (i : Instr) (s : State) (d : Byte), s.mem.wf = true → (i.operation = .inc ∧ d = 1 ∨ i.operation = .dec ∧ d = -1) →
    ∃ m t, i.operand = .memory m ∧ exec i s = .next t ∧
      let w := s.peek (effectiveAddress m s) + d
      s.Stored t (effectiveAddress m s) w ∧
      s.Ran t i { s.regs with pc := s.nextPc i, flags := { s.flags with n := w.getLsbD 7, z := w == 0 } } s.flags.i
        (s.modifyTrace i m w)

/-- Each has exactly its opcode byte, implied. In every state exec of it answers a next state in which X or Y is one more or one
less modulo 256, N and Z are from it, every other register, flag and byte of memory is as before, PC is one further, and the
bus saw the opcode fetch and the dummy read of the next byte. (stated: R222, R223, R224, R225) -/
def Obligations.IncrementDecrementRegisters : Prop :=
  (Encoded .inx
      [(0xE8, .implied)] ∧
    Encoded .iny
      [(0xC8, .implied)] ∧
    Encoded .dex
      [(0xCA, .implied)] ∧
    Encoded .dey
      [(0x88, .implied)]) ∧
  ∀ (i : Instr) (s : State) (r : Regs),
    (i = .inx ∧ r = { s.regs with x := s.x + 1, flags := { s.flags with n := (s.x + 1).getLsbD 7, z := (s.x + 1) == 0 } } ∨
      i = .iny ∧ r = { s.regs with y := s.y + 1, flags := { s.flags with n := (s.y + 1).getLsbD 7, z := (s.y + 1) == 0 } } ∨
      i = .dex ∧ r = { s.regs with x := s.x - 1, flags := { s.flags with n := (s.x - 1).getLsbD 7, z := (s.x - 1) == 0 } } ∨
      i = .dey ∧ r = { s.regs with y := s.y - 1, flags := { s.flags with n := (s.y - 1).getLsbD 7, z := (s.y - 1) == 0 } }) →
    ∃ t, exec i s = .next t ∧ s.SameMemory t ∧ s.Ran t i { r with pc := s.pc + 1 } s.flags.i (s.readTrace i)

/-- The four have exactly the opcode bytes and modes of their rules. Let v be A for the accumulator form, the byte at the
effective address otherwise. exec of each (with the canonical memory) answers a next state in which the result, 2v (ASL),
v/2 (LSR), 2v + C (ROL) or v/2 + 128 C (ROR) modulo 256, is in A or in memory where the bus accepts the write, C is the bit
shifted out (bit 7 or bit 0 of v), N and Z are from the result, V, D, I, every other register and byte are as before, and
the bus saw the dummy read (accumulator) or the read-modify-write sequence with its double write. (stated: R226, R227, R228,
R229, R230) -/
def Obligations.ShiftsAndRotates : Prop :=
  (Encoded .asl
      [(0x0A, .accumulator), (0x06, .zeropage), (0x16, .zeropageIndexedX), (0x0E, .absolute),
        (0x1E, .absoluteIndexedX)] ∧
    Encoded .lsr
      [(0x4A, .accumulator), (0x46, .zeropage), (0x56, .zeropageIndexedX), (0x4E, .absolute),
        (0x5E, .absoluteIndexedX)] ∧
    Encoded .rol
      [(0x2A, .accumulator), (0x26, .zeropage), (0x36, .zeropageIndexedX), (0x2E, .absolute),
        (0x3E, .absoluteIndexedX)] ∧
    Encoded .ror
      [(0x6A, .accumulator), (0x66, .zeropage), (0x76, .zeropageIndexedX), (0x6E, .absolute),
        (0x7E, .absoluteIndexedX)]) ∧
  ∀ (i : Instr) (s : State) (v r : Byte) (c : Bool), s.mem.wf = true →
    (i.operand = .accumulator ∧ v = s.a ∨ ∃ m, i.operand = .memory m ∧ v = s.peek (effectiveAddress m s)) →
    (i.operation = .asl ∧ r = BitVec.ofNat 8 (2 * v.toNat) ∧ c = v.getLsbD 7 ∨
      i.operation = .lsr ∧ r = BitVec.ofNat 8 (v.toNat / 2) ∧ c = v.getLsbD 0 ∨
      i.operation = .rol ∧ r = BitVec.ofNat 8 (2 * v.toNat + s.flags.c.toNat) ∧ c = v.getLsbD 7 ∨
      i.operation = .ror ∧ r = BitVec.ofNat 8 (v.toNat / 2 + 128 * s.flags.c.toNat) ∧ c = v.getLsbD 0) →
    ∃ t, exec i s = .next t ∧
      let regs := { s.regs with
        pc := s.nextPc i, flags := { s.flags with n := r.getLsbD 7, z := r == 0, c := c } }
      match i.operand with
      | .memory m => s.Stored t (effectiveAddress m s) r ∧ s.Ran t i regs s.flags.i (s.modifyTrace i m r)
      | _ => s.SameMemory t ∧ s.Ran t i { regs with a := r } s.flags.i (s.readTrace i)

/-- SLO, RLA and SRE have exactly the opcode bytes and modes of their rules. With the canonical memory exec of each, in every
mode, answers a next state in which the byte at the effective address is shifted left, rotated left through C, or shifted
right where the bus accepts the write, C is the bit shifted out of the memory byte, A is A OR, AND or exclusive-OR the
shifted byte, N and Z are from the new A, V, D, I, every other register and byte are as before, and the bus saw the
read-modify-write sequence. (stated: R301, R302, R303) -/
def Obligations.ShiftThenLogic : Prop :=
  (Encoded .slo
      [(0x07, .zeropage), (0x17, .zeropageIndexedX), (0x0F, .absolute), (0x1F, .absoluteIndexedX),
        (0x1B, .absoluteIndexedY), (0x03, .indexedIndirectX), (0x13, .indirectIndexedY)] ∧
    Encoded .rla
      [(0x27, .zeropage), (0x37, .zeropageIndexedX), (0x2F, .absolute), (0x3F, .absoluteIndexedX),
        (0x3B, .absoluteIndexedY), (0x23, .indexedIndirectX), (0x33, .indirectIndexedY)] ∧
    Encoded .sre
      [(0x47, .zeropage), (0x57, .zeropageIndexedX), (0x4F, .absolute), (0x5F, .absoluteIndexedX),
        (0x5B, .absoluteIndexedY), (0x43, .indexedIndirectX), (0x53, .indirectIndexedY)]) ∧
  ∀ (i : Instr) (s : State), s.mem.wf = true → i.operation ∈ [Operation.slo, .rla, .sre] →
    ∃ m, i.operand = .memory m ∧ ∀ (v r a : Byte) (c : Bool), v = s.peek (effectiveAddress m s) →
      (i.operation = .slo ∧ r = BitVec.ofNat 8 (2 * v.toNat) ∧ c = v.getLsbD 7 ∧ a = s.a ||| r ∨
      i.operation = .rla ∧ r = BitVec.ofNat 8 (2 * v.toNat + s.flags.c.toNat) ∧ c = v.getLsbD 7 ∧ a = s.a &&& r ∨
      i.operation = .sre ∧ r = BitVec.ofNat 8 (v.toNat / 2) ∧ c = v.getLsbD 0 ∧ a = s.a ^^^ r) →
      ∃ t, exec i s = .next t ∧ s.Stored t (effectiveAddress m s) r ∧
        s.Ran t i { s.regs with
          a := a, pc := s.nextPc i, flags := { s.flags with n := a.getLsbD 7, z := a == 0, c := c } } s.flags.i
          (s.modifyTrace i m r)

/-- DCP has exactly the opcode bytes and modes of its rule. With the canonical memory exec of it, in every mode, answers a next
state in which the byte at the effective address is one less modulo 256 where the bus accepts the write, C, N and Z are
those of comparing A with it, V, D, I, every register and every other byte are as before, PC is past the instruction, and
the bus saw the read-modify-write sequence. (stated: R305) -/
def Obligations.DecrementThenCompare : Prop :=
  Encoded .dcp
      [(0xC7, .zeropage), (0xD7, .zeropageIndexedX), (0xCF, .absolute), (0xDF, .absoluteIndexedX),
        (0xDB, .absoluteIndexedY), (0xC3, .indexedIndirectX), (0xD3, .indirectIndexedY)] ∧
  ∀ (i : Instr) (s : State), s.mem.wf = true → i.operation = .dcp →
    ∃ m t, i.operand = .memory m ∧ exec i s = .next t ∧
      let r := s.peek (effectiveAddress m s) - 1
      s.Stored t (effectiveAddress m s) r ∧
      s.Ran t i { s.regs with pc := s.nextPc i, flags := compareRule s.a r s.flags } s.flags.i (s.modifyTrace i m r)

/-- RRA has exactly the opcode bytes and modes of its rule. With the canonical memory, unless D = 1 under DECIMAL_MODE = REJECT,
exec of it in every mode answers a next state in which the byte at the effective address is rotated right through C where
the bus accepts the write, and A, N, V, Z, C are what the add rule gives for A, the rotated byte and a carry-in of the bit
rotated out (decimal when D = 1); D, I, X, Y, SP and every other byte are as before, and the bus saw the read-modify-write
sequence. (derived: R304, R180, R181, R300) -/
def Obligations.RotateThenAdd : Prop :=
  Encoded .rra
      [(0x67, .zeropage), (0x77, .zeropageIndexedX), (0x6F, .absolute), (0x7F, .absoluteIndexedX),
        (0x7B, .absoluteIndexedY), (0x63, .indexedIndirectX), (0x73, .indirectIndexedY)] ∧
  ∀ (i : Instr) (s : State), s.mem.wf = true → i.operation = .rra → (s.config.decimalMode = .nmos ∨ s.flags.d = false) →
    ∃ m t, i.operand = .memory m ∧ exec i s = .next t ∧
      let v := s.peek (effectiveAddress m s)
      let r := BitVec.ofNat 8 (v.toNat / 2 + 128 * s.flags.c.toNat)
      let sum := addRule s.a r { s.flags with c := v.getLsbD 0 }
      s.Stored t (effectiveAddress m s) r ∧
      s.Ran t i { s.regs with a := sum.1, pc := s.nextPc i, flags := sum.2 } s.flags.i (s.modifyTrace i m r)

/-- ISC has exactly the opcode bytes and modes of its rule. With the canonical memory, unless D = 1 under DECIMAL_MODE = REJECT,
exec of it in every mode answers a next state in which the byte at the effective address is one more modulo 256 where the
bus accepts the write, and A, N, V, Z, C are what the subtract rule gives for A and that byte (decimal result when D = 1);
D, I, X, Y, SP and every other byte are as before, and the bus saw the read-modify-write sequence. (derived: R306, R182,
R185, R300) -/
def Obligations.IncrementThenSubtract : Prop :=
  Encoded .isc
      [(0xE7, .zeropage), (0xF7, .zeropageIndexedX), (0xEF, .absolute), (0xFF, .absoluteIndexedX),
        (0xFB, .absoluteIndexedY), (0xE3, .indexedIndirectX), (0xF3, .indirectIndexedY)] ∧
  ∀ (i : Instr) (s : State), s.mem.wf = true → i.operation = .isc → (s.config.decimalMode = .nmos ∨ s.flags.d = false) →
    ∃ m t, i.operand = .memory m ∧ exec i s = .next t ∧
      let r := s.peek (effectiveAddress m s) + 1
      let difference := subRule s.a r s.flags
      s.Stored t (effectiveAddress m s) r ∧
      s.Ran t i { s.regs with a := difference.1, pc := s.nextPc i, flags := difference.2 } s.flags.i (s.modifyTrace i m r)

/-- LAX and LAS have exactly the opcode bytes and modes of their rules. In every state exec of each answers a next state: for
LAX on memory A and X are the byte at the effective address; for LAX immediate A and X are (A OR LXA_MAGIC) AND the operand,
for every value of the parameter; for LAS A, X and SP are that byte AND SP; N and Z are from the byte loaded, every other
register, flag and byte of memory is as before, and the bus saw the mode's read sequence. (stated: R307, R308, R315) -/
def Obligations.LoadsOfSeveralRegisters : Prop :=
  (Encoded .lax
      [(0xA7, .zeropage), (0xB7, .zeropageIndexedY), (0xAF, .absolute), (0xBF, .absoluteIndexedY),
        (0xA3, .indexedIndirectX), (0xB3, .indirectIndexedY), (0xAB, .immediate)] ∧
    Encoded .las
      [(0xBB, .absoluteIndexedY)]) ∧
  ∀ (i : Instr) (s : State) (v : Byte), s.operandValue i.operand = some v →
    (i.operation = .lax → ∃ t, exec i s = .next t ∧ s.SameMemory t ∧
      let r := if i.operand = .immediate v then (s.a ||| s.config.lxaMagic) &&& v else v
      s.Ran t i { s.regs with
        a := r, x := r, pc := s.nextPc i, flags := { s.flags with n := r.getLsbD 7, z := r == 0 } } s.flags.i
        (s.readTrace i)) ∧
    (i.operation = .las → ∃ t, exec i s = .next t ∧ s.SameMemory t ∧
      let r := v &&& s.sp
      s.Ran t i { a := r, x := r, y := s.y, sp := r, pc := s.nextPc i, flags :=
        { s.flags with n := r.getLsbD 7, z := r == 0 } } s.flags.i (s.readTrace i))

/-- ANC, ALR, XAA and AXS have exactly their opcode bytes. In every state, for every operand v, exec of each answers a next
state: ANC gives A = A AND v with C = N; ALR gives A = (A AND v) / 2 with C bit 0 of A AND v; XAA gives A = (A OR ANE_MAGIC)
AND X AND v, for every value of the parameter, C as before; AXS gives X = (A AND X) - v modulo 256 with C = 1 exactly when A
AND X >= v unsigned, whatever D and the old C are. N and Z are from the result; V, D, I, every other register and all of
memory are as before; the bus saw the two instruction bytes. (stated: R310, R311, R313, R314) -/
def Obligations.ImmediateFormulas : Prop :=
  (Encoded .anc
      [(0x0B, .immediate), (0x2B, .immediate)] ∧
    Encoded .alr
      [(0x4B, .immediate)] ∧
    Encoded .xaa
      [(0x8B, .immediate)] ∧
    Encoded .axs
      [(0xCB, .immediate)]) ∧
  ∀ (i : Instr) (s : State) (v : Byte), i.operand = .immediate v →
    (i.operation ∈ [Operation.anc, .alr, .xaa] → ∀ (r : Byte) (c : Bool),
      (i.operation = .anc ∧ r = s.a &&& v ∧ c = (s.a &&& v).getLsbD 7 ∨
        i.operation = .alr ∧ r = BitVec.ofNat 8 ((s.a &&& v).toNat / 2) ∧ c = (s.a &&& v).getLsbD 0 ∨
        i.operation = .xaa ∧ r = (s.a ||| s.config.aneMagic) &&& s.x &&& v ∧ c = s.flags.c) →
      ∃ t, exec i s = .next t ∧ s.SameMemory t ∧
        s.Ran t i { s.regs with
          a := r, pc := s.nextPc i, flags := { s.flags with n := r.getLsbD 7, z := r == 0, c := c } } s.flags.i
          (s.readTrace i)) ∧
    (i.operation = .axs → ∃ t, exec i s = .next t ∧ s.SameMemory t ∧
      let r := BitVec.ofInt 8 (((s.a &&& s.x).toNat : Int) - v.toNat)
      s.Ran t i { s.regs with
        x := r, pc := s.nextPc i,
        flags := { s.flags with n := r.getLsbD 7, z := r == 0, c := decide (v.toNat ≤ (s.a &&& s.x).toNat) } } s.flags.i
        (s.readTrace i))

/-- ARR has exactly its opcode byte. Let t = A AND v and r = t / 2 + 128 C. Unless D = 1 under DECIMAL_MODE = REJECT exec of it
answers a next state. With D = 0: A = r, N and Z from r, C bit 6 of r, V bit 6 exclusive-or bit 5 of r. With D = 1: N = the
old C, Z says whether r is 0, V whether bit 6 of t and r differ; then if (t mod 16) + bit 0 of t exceeds 5 the low digit of
r gets 6 more within the digit; C says whether the high digit of t plus its bit 0 exceeds 5, and then 0x60 is added modulo
256. D, I, X, Y, SP and all of memory are as before; the bus saw the two instruction bytes. With D = 1 under DECIMAL_MODE =
REJECT it is refused. (stated: R312) -/
def Obligations.AndThenRotate : Prop :=
  Encoded .arr
      [(0x6B, .immediate)] ∧
  ∀ (s : State) (v : Byte),
    ((s.config.decimalMode = .nmos ∨ s.flags.d = false) → ∃ u, exec (.arr v) s = .next u ∧ s.SameMemory u ∧
      let t := s.a &&& v
      let r := BitVec.ofNat 8 (t.toNat / 2 + 128 * s.flags.c.toNat)
      let low := r.toNat % 16
      let fixed := if 5 < t.toNat % 16 + t.toNat % 2 then r.toNat / 16 * 16 + (low + 6) % 16 else r.toNat
      let carry := decide (5 < t.toNat / 16 + t.toNat / 16 % 2)
      s.Ran u (.arr v)
        (if s.flags.d = true then { s.regs with
          a := BitVec.ofNat 8 (if carry then fixed + 0x60 else fixed), pc := s.pc + 2,
          flags := { s.flags with n := s.flags.c, z := r == 0, v := t.getLsbD 6 != r.getLsbD 6, c := carry } }
        else { s.regs with
          a := r, pc := s.pc + 2,
          flags := { s.flags with
            n := r.getLsbD 7, z := r == 0, v := r.getLsbD 6 != r.getLsbD 5, c := r.getLsbD 6 } })
        s.flags.i (s.readTrace (.arr v))) ∧
    (s.config.decimalMode = .reject → s.flags.d = true → exec (.arr v) s = .refused .decimalUnsupported)

/-- The four have exactly the opcode bytes and modes of their rules. With the canonical memory exec of each, in every mode,
answers a next state. With H the high byte of the address before indexing, the stored value is the source (A AND X for TAS
and AHX, X for SHX, Y for SHY) AND (H + 1 modulo 256); it goes to the effective address, or on a page crossing to the
address whose high byte is that value and whose low byte is the effective address's; TAS also leaves A AND X in SP. No flag,
no other register and no other byte changes; the bus saw the mode's write sequence with the read at the uncorrected address.
(stated: R316, R317, R318, R319, R321) -/
def Obligations.HighByteStores : Prop :=
  (Encoded .tas
      [(0x9B, .absoluteIndexedY)] ∧
    Encoded .ahx
      [(0x9F, .absoluteIndexedY), (0x93, .indirectIndexedY)] ∧
    Encoded .shx
      [(0x9E, .absoluteIndexedY)] ∧
    Encoded .shy
      [(0x9C, .absoluteIndexedX)]) ∧
  ∀ (i : Instr) (s : State) (src sp : Byte), s.mem.wf = true →
    (i.operation = .tas ∧ src = s.a &&& s.x ∧ sp = s.a &&& s.x ∨ i.operation = .ahx ∧ src = s.a &&& s.x ∧ sp = s.sp ∨
      i.operation = .shx ∧ src = s.x ∧ sp = s.sp ∨ i.operation = .shy ∧ src = s.y ∧ sp = s.sp) →
    ∃ m t, i.operand = .memory m ∧ exec i s = .next t ∧
      let value := src &&& (hiByte (baseAddress m s) + 1)
      let addr := if pageCrossed m s = true then wordOf value (loByte (effectiveAddress m s)) else effectiveAddress m s
      s.Stored t addr value ∧
      s.Ran t i { s.regs with sp := sp, pc := s.nextPc i } s.flags.i (s.writeTrace i m addr value)

/-- JMP has exactly its two opcode bytes. In every state exec of JMP w answers a next state with PC = w, 3 cycles; exec of JMP
(w) answers one with PC the word whose low byte is at w and whose high byte is at the next address within the page of w (the
low byte of the pointer wraps modulo 256), 5 cycles. No register, flag or byte of memory changes besides PC; the bus saw the
instruction's bytes and, for the indirect form, the two pointer reads. (stated: R250, R251, R123) -/
def Obligations.Jumps : Prop :=
  Encoded .jmp
      [(0x4C, .absolute), (0x6C, .indirect)] ∧
  ∀ (s : State) (w : Word),
    let second : Word := BitVec.ofNat 16 (w.toNat / 256 * 256 + (w.toNat + 1) % 256)
    (∃ t, exec (.jmpAbs w) s = .next t ∧ s.SameMemory t ∧
      s.Ran t (.jmpAbs w) { s.regs with pc := w } s.flags.i (streamReads s.pc [0x4C, loByte w, hiByte w])) ∧
    ∃ t, exec (.jmpInd w) s = .next t ∧ s.SameMemory t ∧
      s.Ran t (.jmpInd w) { s.regs with pc := wordOf (s.peek second) (s.peek w) } s.flags.i
        (streamReads s.pc [0x6C, loByte w, hiByte w] ++ [s.rd w, s.rd second])

/-- JSR has exactly its opcode byte. With the canonical memory exec of JSR w answers a next state in which the address of JSR's
last byte, PC + 2, is pushed high byte first, SP drops by 2, and PC has the low byte of w and, as high byte, the byte read
at PC + 2 after the pushes; so PC = w when the byte at PC + 2 is the high byte of w and neither push went there. No other
register, flag or byte changes; the bus saw the six accesses of the rule, in order. (stated: R252) -/
def Obligations.JumpToSubroutine : Prop :=
  Encoded .jsr
      [(0x20, .absolute)] ∧
  ∀ (s : State) (w : Word), s.mem.wf = true →
    ∃ t, exec (.jsr w) s = .next t ∧
      let last := s.pc + 2
      let high := s.pushedByte s.sp [hiByte last, loByte last] last
      s.Pushed t [hiByte last, loByte last] ∧
      s.Ran t (.jsr w) { s.regs with sp := s.sp - 2, pc := wordOf high (loByte w) } s.flags.i
        [⟨.read, s.pc, 0x20⟩, ⟨.read, s.pc + 1, loByte w⟩, s.rd (stackAddr s.sp), wr (stackAddr s.sp) (hiByte last),
          wr (stackAddr (s.sp - 1)) (loByte last), ⟨.read, last, high⟩] ∧
      (s.peek last = hiByte w → last ≠ stackAddr s.sp → last ≠ stackAddr (s.sp - 1) → t.pc = w)

/-- RTS has exactly its opcode byte. In every state exec of it answers a next state in which PC is one past the little-endian
word at 0x0100 + (SP + 1) and 0x0100 + (SP + 2), both modulo 256, SP is 2 more modulo 256, no other register, no flag and no
byte of memory changes, and the bus saw the six reads of the rule, in order. (stated: R253) -/
def Obligations.ReturnFromSubroutine : Prop :=
  Encoded .rts
      [(0x60, .implied)] ∧
  ∀ s : State, ∃ t, exec .rts s = .next t ∧ s.SameMemory t ∧
    let pulled := wordOf (s.peek (stackAddr (s.sp + 2))) (s.peek (stackAddr (s.sp + 1)))
    s.Ran t .rts { s.regs with sp := s.sp + 2, pc := pulled + 1 } s.flags.i
      [⟨.read, s.pc, 0x60⟩, s.rd (s.pc + 1), s.rd (stackAddr s.sp), s.rd (stackAddr (s.sp + 1)),
        s.rd (stackAddr (s.sp + 2)), s.rd pulled]

/-- The eight branches have exactly their opcode bytes, in Relative mode. In every state, for every displacement, exec of a
branch answers a next state: it is taken exactly when N = 0 (BPL), N = 1 (BMI), V = 0 (BVC), V = 1 (BVS), C = 0 (BCC), C = 1
(BCS), Z = 0 (BNE), Z = 1 (BEQ); taken, PC is the address after the branch plus the signed displacement modulo 65536, not
taken the address after the branch. No other register, no flag and no byte of memory changes; the bus saw the two
instruction bytes, then if taken a read at the next instruction, and if the page is crossed a read at the target with the
uncorrected high byte. (stated: R254, R255, R256, R257, R258, R259, R260, R261, R262, R124) -/
def Obligations.Branches : Prop :=
  (Encoded .bpl
      [(0x10, .relative)] ∧
    Encoded .bmi
      [(0x30, .relative)] ∧
    Encoded .bvc
      [(0x50, .relative)] ∧
    Encoded .bvs
      [(0x70, .relative)] ∧
    Encoded .bcc
      [(0x90, .relative)] ∧
    Encoded .bcs
      [(0xB0, .relative)] ∧
    Encoded .bne
      [(0xD0, .relative)] ∧
    Encoded .beq
      [(0xF0, .relative)]) ∧
  ∀ (s : State) (off : Byte) (i : Instr) (taken : Bool),
    (i = .bpl off ∧ taken = (!s.flags.n) ∨
      i = .bmi off ∧ taken = s.flags.n ∨
      i = .bvc off ∧ taken = (!s.flags.v) ∨
      i = .bvs off ∧ taken = s.flags.v ∨
      i = .bcc off ∧ taken = (!s.flags.c) ∨
      i = .bcs off ∧ taken = s.flags.c ∨
      i = .bne off ∧ taken = (!s.flags.z) ∨
      i = .beq off ∧ taken = s.flags.z) →
    ∃ t, exec i s = .next t ∧ s.SameMemory t ∧
      let next := s.pc + 2
      let target : Word := BitVec.ofInt 16 (next.toNat + off.toInt)
      s.Ran t i { s.regs with pc := if taken then target else next } s.flags.i
        (⟨.read, s.pc, i.opcode⟩ :: ⟨.read, s.pc + 1, off⟩ ::
          if taken then
            s.rd next :: if hiByte target = hiByte next then [] else [s.rd (wordOf (hiByte next) (loByte target))]
          else [])

/-- BRK has exactly its opcode byte. With the canonical memory exec of it answers a next state in which the BRK address + 2 is
pushed high byte first, then P with bits 5 and 4 set, SP drops by 3, I is set and no other flag changes (D among them), PC
is the word at FFFE, pollOk is 0 and iPoll is 1, A, X, Y, halted, the NMI latch and every other byte of memory are as
before, and the bus saw the seven accesses of the rule, in order. (derived: R263, R38, R39, R27) -/
def Obligations.SoftwareInterrupt : Prop :=
  Encoded .brk
      [(0x00, .implied)] ∧
  ∀ s : State, s.mem.wf = true →
    ∃ t, exec .brk s = .next t ∧ s.Pushed t [hiByte (s.pc + 2), loByte (s.pc + 2), s.flags.pread true] ∧
      t.regs = { s.regs with
        sp := s.sp - 3, pc := wordOf (s.peek 0xFFFF#16) (s.peek 0xFFFE#16), flags := { s.flags with i := true } } ∧
      t.hidden = { s.hidden with iPoll := true, pollOk := false } ∧ t.platform = s.platform ∧
      t.outcome = .ok ∧ t.event = .brk ∧ t.cycles = 7 ∧
      t.trace = [⟨.read, s.pc, 0x00⟩, s.rd (s.pc + 1), wr (stackAddr s.sp) (hiByte (s.pc + 2)),
        wr (stackAddr (s.sp - 1)) (loByte (s.pc + 2)), wr (stackAddr (s.sp - 2)) (s.flags.pread true),
        s.rd 0xFFFE#16, s.rd 0xFFFF#16]

/-- RTI has exactly its opcode byte. In every state exec of it answers a next state in which the six flags are loaded from the
byte at 0x0100 + (SP + 1), bits 5 and 4 discarded, PC is the little-endian word at SP + 2 and SP + 3 on the stack page with
no increment, SP is 3 more modulo 256, the next IRQ poll uses the pulled I, interrupts may be taken, A, X, Y and all of
memory are as before, and the bus saw the six reads of the rule, in order. (stated: R264) -/
def Obligations.ReturnFromInterrupt : Prop :=
  Encoded .rti
      [(0x40, .implied)] ∧
  ∀ s : State, ∃ t, exec .rti s = .next t ∧ s.SameMemory t ∧
    let p := s.peek (stackAddr (s.sp + 1))
    s.Ran t .rti { s.regs with
      sp := s.sp + 3, pc := wordOf (s.peek (stackAddr (s.sp + 3))) (s.peek (stackAddr (s.sp + 2))),
      flags :=
        { n := p.getLsbD 7, v := p.getLsbD 6, d := p.getLsbD 3, i := p.getLsbD 2, z := p.getLsbD 1, c := p.getLsbD 0 } }
      (p.getLsbD 2)
      [⟨.read, s.pc, 0x40⟩, s.rd (s.pc + 1), s.rd (stackAddr s.sp), s.rd (stackAddr (s.sp + 1)),
        s.rd (stackAddr (s.sp + 2)), s.rd (stackAddr (s.sp + 3))]

/-- With the canonical memory, where the bus accepts writes to the stack bytes used: executing JSR and then RTS gives PC = the
JSR address + 3 with A, X, Y, SP and every flag as before the JSR; executing BRK and then RTI gives PC = the BRK address + 2
with A, X, Y, SP and every flag as before the BRK. For every SP, wrapping within the stack page. (derived: R252, R253, R263,
R264, R24) -/
def Obligations.CallsAndInterruptsReturn : Prop :=
  (∀ (s : State) (w : Word), s.mem.wf = true → s.writable (stackAddr s.sp) = true →
    s.writable (stackAddr (s.sp - 1)) = true →
    ∃ t u, exec (.jsr w) s = .next t ∧ exec .rts t = .next u ∧ u.regs = { s.regs with pc := s.pc + 3 }) ∧
  ∀ s : State, s.mem.wf = true → s.writable (stackAddr s.sp) = true →
    s.writable (stackAddr (s.sp - 1)) = true → s.writable (stackAddr (s.sp - 2)) = true →
    ∃ t u, exec .brk s = .next t ∧ exec .rti t = .next u ∧ u.regs = { s.regs with pc := s.pc + 2 }

/-- Each has exactly its opcode byte, implied. In every state exec of it answers a next state in which C is 0 (CLC) or 1 (SEC),
I is 0 (CLI) or 1 (SEI), D is 0 (CLD) or 1 (SED), or V is 0 (CLV), every other flag, every register but PC (one further) and
all of memory are as before, the next IRQ poll uses the I from before the instruction (CLI and SEI too), and the bus saw the
opcode fetch and the dummy read of the next byte. (stated: R280, R281, R282, R283, R284, R285, R286) -/
def Obligations.FlagOperations : Prop :=
  (Encoded .clc
      [(0x18, .implied)] ∧
    Encoded .sec
      [(0x38, .implied)] ∧
    Encoded .cli
      [(0x58, .implied)] ∧
    Encoded .sei
      [(0x78, .implied)] ∧
    Encoded .cld
      [(0xD8, .implied)] ∧
    Encoded .sed
      [(0xF8, .implied)] ∧
    Encoded .clv
      [(0xB8, .implied)]) ∧
  ∀ (i : Instr) (s : State) (f : Flags),
    (i = .clc ∧ f = { s.flags with c := false } ∨
      i = .sec ∧ f = { s.flags with c := true } ∨
      i = .cli ∧ f = { s.flags with i := false } ∨
      i = .sei ∧ f = { s.flags with i := true } ∨
      i = .cld ∧ f = { s.flags with d := false } ∨
      i = .sed ∧ f = { s.flags with d := true } ∨
      i = .clv ∧ f = { s.flags with v := false }) →
    ∃ t, exec i s = .next t ∧ s.SameMemory t ∧
      s.Ran t i { s.regs with pc := s.pc + 1, flags := f } s.flags.i (s.readTrace i)

/-- NOP has exactly its 28 opcode bytes, implied, immediate, zp, zpx, abs and abx. In every state exec of each answers a next
state in which PC is past the instruction, every register, flag and byte of memory is as before, and the bus saw the mode's
read sequence (the dummy read, the operand byte, or the operand read with the read at the uncorrected address on a page
crossing). (stated: R287, R288, R289) -/
def Obligations.NoOperations : Prop :=
  Encoded .nop
      [(0xEA, .implied), (0x1A, .implied), (0x3A, .implied), (0x5A, .implied), (0x7A, .implied), (0xDA, .implied),
        (0xFA, .implied), (0x80, .immediate), (0x82, .immediate), (0x89, .immediate), (0xC2, .immediate),
        (0xE2, .immediate), (0x04, .zeropage), (0x44, .zeropage), (0x64, .zeropage), (0x14, .zeropageIndexedX),
        (0x34, .zeropageIndexedX), (0x54, .zeropageIndexedX), (0x74, .zeropageIndexedX), (0xD4, .zeropageIndexedX),
        (0xF4, .zeropageIndexedX), (0x0C, .absolute), (0x1C, .absoluteIndexedX), (0x3C, .absoluteIndexedX),
        (0x5C, .absoluteIndexedX), (0x7C, .absoluteIndexedX), (0xDC, .absoluteIndexedX), (0xFC, .absoluteIndexedX)] ∧
  ∀ (i : Instr) (s : State), i.operation = .nop →
    ∃ t, exec i s = .next t ∧ s.SameMemory t ∧ s.Ran t i { s.regs with pc := s.nextPc i } s.flags.i (s.readTrace i)
end

