-- ==== Sys2Proof/Laws/State.lean ====
section
/-! SUPPORT. One lemma per field of State for each update of Machine/Ops.lean, so that no later proof unfolds a record update. -/

namespace Sys2Proof.Machine.State

variable (s : State)

@[simp] theorem setA_a (v : Byte) : (s.setA v).a = v := rfl
@[simp] theorem setA_x (v : Byte) : (s.setA v).x = s.x := rfl
@[simp] theorem setA_y (v : Byte) : (s.setA v).y = s.y := rfl
@[simp] theorem setA_sp (v : Byte) : (s.setA v).sp = s.sp := rfl
@[simp] theorem setA_pc (v : Byte) : (s.setA v).pc = s.pc := rfl
@[simp] theorem setA_flags (v : Byte) : (s.setA v).flags = s.flags := rfl
@[simp] theorem setA_halted (v : Byte) : (s.setA v).halted = s.halted := rfl
@[simp] theorem setA_nmiPrev (v : Byte) : (s.setA v).nmiPrev = s.nmiPrev := rfl
@[simp] theorem setA_nmiPending (v : Byte) : (s.setA v).nmiPending = s.nmiPending := rfl
@[simp] theorem setA_iPoll (v : Byte) : (s.setA v).iPoll = s.iPoll := rfl
@[simp] theorem setA_pollOk (v : Byte) : (s.setA v).pollOk = s.pollOk := rfl
@[simp] theorem setA_mem (v : Byte) : (s.setA v).mem = s.mem := rfl
@[simp] theorem setA_readOnly (v : Byte) : (s.setA v).readOnly = s.readOnly := rfl
@[simp] theorem setA_config (v : Byte) : (s.setA v).config = s.config := rfl
@[simp] theorem setA_irqLine (v : Byte) : (s.setA v).irqLine = s.irqLine := rfl
@[simp] theorem setA_nmiLine (v : Byte) : (s.setA v).nmiLine = s.nmiLine := rfl
@[simp] theorem setA_host (v : Byte) : (s.setA v).host = s.host := rfl
@[simp] theorem setA_outcome (v : Byte) : (s.setA v).outcome = s.outcome := rfl
@[simp] theorem setA_event (v : Byte) : (s.setA v).event = s.event := rfl
@[simp] theorem setA_cycles (v : Byte) : (s.setA v).cycles = s.cycles := rfl
@[simp] theorem setA_trace (v : Byte) : (s.setA v).trace = s.trace := rfl
@[simp] theorem setA_peek (v : Byte) (adr : Word) : (s.setA v).peek adr = s.peek adr := rfl
@[simp] theorem setA_writable (v : Byte) (adr : Word) : (s.setA v).writable adr = s.writable adr := rfl
@[simp] theorem setA_busWrite (v : Byte) (adr : Word) (u : Byte) : (s.setA v).busWrite adr u = s.busWrite adr u := rfl

@[simp] theorem setX_a (v : Byte) : (s.setX v).a = s.a := rfl
@[simp] theorem setX_x (v : Byte) : (s.setX v).x = v := rfl
@[simp] theorem setX_y (v : Byte) : (s.setX v).y = s.y := rfl
@[simp] theorem setX_sp (v : Byte) : (s.setX v).sp = s.sp := rfl
@[simp] theorem setX_pc (v : Byte) : (s.setX v).pc = s.pc := rfl
@[simp] theorem setX_flags (v : Byte) : (s.setX v).flags = s.flags := rfl
@[simp] theorem setX_halted (v : Byte) : (s.setX v).halted = s.halted := rfl
@[simp] theorem setX_nmiPrev (v : Byte) : (s.setX v).nmiPrev = s.nmiPrev := rfl
@[simp] theorem setX_nmiPending (v : Byte) : (s.setX v).nmiPending = s.nmiPending := rfl
@[simp] theorem setX_iPoll (v : Byte) : (s.setX v).iPoll = s.iPoll := rfl
@[simp] theorem setX_pollOk (v : Byte) : (s.setX v).pollOk = s.pollOk := rfl
@[simp] theorem setX_mem (v : Byte) : (s.setX v).mem = s.mem := rfl
@[simp] theorem setX_readOnly (v : Byte) : (s.setX v).readOnly = s.readOnly := rfl
@[simp] theorem setX_config (v : Byte) : (s.setX v).config = s.config := rfl
@[simp] theorem setX_irqLine (v : Byte) : (s.setX v).irqLine = s.irqLine := rfl
@[simp] theorem setX_nmiLine (v : Byte) : (s.setX v).nmiLine = s.nmiLine := rfl
@[simp] theorem setX_host (v : Byte) : (s.setX v).host = s.host := rfl
@[simp] theorem setX_outcome (v : Byte) : (s.setX v).outcome = s.outcome := rfl
@[simp] theorem setX_event (v : Byte) : (s.setX v).event = s.event := rfl
@[simp] theorem setX_cycles (v : Byte) : (s.setX v).cycles = s.cycles := rfl
@[simp] theorem setX_trace (v : Byte) : (s.setX v).trace = s.trace := rfl
@[simp] theorem setX_peek (v : Byte) (adr : Word) : (s.setX v).peek adr = s.peek adr := rfl
@[simp] theorem setX_writable (v : Byte) (adr : Word) : (s.setX v).writable adr = s.writable adr := rfl
@[simp] theorem setX_busWrite (v : Byte) (adr : Word) (u : Byte) : (s.setX v).busWrite adr u = s.busWrite adr u := rfl

@[simp] theorem setY_a (v : Byte) : (s.setY v).a = s.a := rfl
@[simp] theorem setY_x (v : Byte) : (s.setY v).x = s.x := rfl
@[simp] theorem setY_y (v : Byte) : (s.setY v).y = v := rfl
@[simp] theorem setY_sp (v : Byte) : (s.setY v).sp = s.sp := rfl
@[simp] theorem setY_pc (v : Byte) : (s.setY v).pc = s.pc := rfl
@[simp] theorem setY_flags (v : Byte) : (s.setY v).flags = s.flags := rfl
@[simp] theorem setY_halted (v : Byte) : (s.setY v).halted = s.halted := rfl
@[simp] theorem setY_nmiPrev (v : Byte) : (s.setY v).nmiPrev = s.nmiPrev := rfl
@[simp] theorem setY_nmiPending (v : Byte) : (s.setY v).nmiPending = s.nmiPending := rfl
@[simp] theorem setY_iPoll (v : Byte) : (s.setY v).iPoll = s.iPoll := rfl
@[simp] theorem setY_pollOk (v : Byte) : (s.setY v).pollOk = s.pollOk := rfl
@[simp] theorem setY_mem (v : Byte) : (s.setY v).mem = s.mem := rfl
@[simp] theorem setY_readOnly (v : Byte) : (s.setY v).readOnly = s.readOnly := rfl
@[simp] theorem setY_config (v : Byte) : (s.setY v).config = s.config := rfl
@[simp] theorem setY_irqLine (v : Byte) : (s.setY v).irqLine = s.irqLine := rfl
@[simp] theorem setY_nmiLine (v : Byte) : (s.setY v).nmiLine = s.nmiLine := rfl
@[simp] theorem setY_host (v : Byte) : (s.setY v).host = s.host := rfl
@[simp] theorem setY_outcome (v : Byte) : (s.setY v).outcome = s.outcome := rfl
@[simp] theorem setY_event (v : Byte) : (s.setY v).event = s.event := rfl
@[simp] theorem setY_cycles (v : Byte) : (s.setY v).cycles = s.cycles := rfl
@[simp] theorem setY_trace (v : Byte) : (s.setY v).trace = s.trace := rfl
@[simp] theorem setY_peek (v : Byte) (adr : Word) : (s.setY v).peek adr = s.peek adr := rfl
@[simp] theorem setY_writable (v : Byte) (adr : Word) : (s.setY v).writable adr = s.writable adr := rfl
@[simp] theorem setY_busWrite (v : Byte) (adr : Word) (u : Byte) : (s.setY v).busWrite adr u = s.busWrite adr u := rfl

@[simp] theorem setSp_a (v : Byte) : (s.setSp v).a = s.a := rfl
@[simp] theorem setSp_x (v : Byte) : (s.setSp v).x = s.x := rfl
@[simp] theorem setSp_y (v : Byte) : (s.setSp v).y = s.y := rfl
@[simp] theorem setSp_sp (v : Byte) : (s.setSp v).sp = v := rfl
@[simp] theorem setSp_pc (v : Byte) : (s.setSp v).pc = s.pc := rfl
@[simp] theorem setSp_flags (v : Byte) : (s.setSp v).flags = s.flags := rfl
@[simp] theorem setSp_halted (v : Byte) : (s.setSp v).halted = s.halted := rfl
@[simp] theorem setSp_nmiPrev (v : Byte) : (s.setSp v).nmiPrev = s.nmiPrev := rfl
@[simp] theorem setSp_nmiPending (v : Byte) : (s.setSp v).nmiPending = s.nmiPending := rfl
@[simp] theorem setSp_iPoll (v : Byte) : (s.setSp v).iPoll = s.iPoll := rfl
@[simp] theorem setSp_pollOk (v : Byte) : (s.setSp v).pollOk = s.pollOk := rfl
@[simp] theorem setSp_mem (v : Byte) : (s.setSp v).mem = s.mem := rfl
@[simp] theorem setSp_readOnly (v : Byte) : (s.setSp v).readOnly = s.readOnly := rfl
@[simp] theorem setSp_config (v : Byte) : (s.setSp v).config = s.config := rfl
@[simp] theorem setSp_irqLine (v : Byte) : (s.setSp v).irqLine = s.irqLine := rfl
@[simp] theorem setSp_nmiLine (v : Byte) : (s.setSp v).nmiLine = s.nmiLine := rfl
@[simp] theorem setSp_host (v : Byte) : (s.setSp v).host = s.host := rfl
@[simp] theorem setSp_outcome (v : Byte) : (s.setSp v).outcome = s.outcome := rfl
@[simp] theorem setSp_event (v : Byte) : (s.setSp v).event = s.event := rfl
@[simp] theorem setSp_cycles (v : Byte) : (s.setSp v).cycles = s.cycles := rfl
@[simp] theorem setSp_trace (v : Byte) : (s.setSp v).trace = s.trace := rfl
@[simp] theorem setSp_peek (v : Byte) (adr : Word) : (s.setSp v).peek adr = s.peek adr := rfl
@[simp] theorem setSp_writable (v : Byte) (adr : Word) : (s.setSp v).writable adr = s.writable adr := rfl
@[simp] theorem setSp_busWrite (v : Byte) (adr : Word) (u : Byte) : (s.setSp v).busWrite adr u = s.busWrite adr u := rfl

@[simp] theorem setPc_a (w : Word) : (s.setPc w).a = s.a := rfl
@[simp] theorem setPc_x (w : Word) : (s.setPc w).x = s.x := rfl
@[simp] theorem setPc_y (w : Word) : (s.setPc w).y = s.y := rfl
@[simp] theorem setPc_sp (w : Word) : (s.setPc w).sp = s.sp := rfl
@[simp] theorem setPc_pc (w : Word) : (s.setPc w).pc = w := rfl
@[simp] theorem setPc_flags (w : Word) : (s.setPc w).flags = s.flags := rfl
@[simp] theorem setPc_halted (w : Word) : (s.setPc w).halted = s.halted := rfl
@[simp] theorem setPc_nmiPrev (w : Word) : (s.setPc w).nmiPrev = s.nmiPrev := rfl
@[simp] theorem setPc_nmiPending (w : Word) : (s.setPc w).nmiPending = s.nmiPending := rfl
@[simp] theorem setPc_iPoll (w : Word) : (s.setPc w).iPoll = s.iPoll := rfl
@[simp] theorem setPc_pollOk (w : Word) : (s.setPc w).pollOk = s.pollOk := rfl
@[simp] theorem setPc_mem (w : Word) : (s.setPc w).mem = s.mem := rfl
@[simp] theorem setPc_readOnly (w : Word) : (s.setPc w).readOnly = s.readOnly := rfl
@[simp] theorem setPc_config (w : Word) : (s.setPc w).config = s.config := rfl
@[simp] theorem setPc_irqLine (w : Word) : (s.setPc w).irqLine = s.irqLine := rfl
@[simp] theorem setPc_nmiLine (w : Word) : (s.setPc w).nmiLine = s.nmiLine := rfl
@[simp] theorem setPc_host (w : Word) : (s.setPc w).host = s.host := rfl
@[simp] theorem setPc_outcome (w : Word) : (s.setPc w).outcome = s.outcome := rfl
@[simp] theorem setPc_event (w : Word) : (s.setPc w).event = s.event := rfl
@[simp] theorem setPc_cycles (w : Word) : (s.setPc w).cycles = s.cycles := rfl
@[simp] theorem setPc_trace (w : Word) : (s.setPc w).trace = s.trace := rfl
@[simp] theorem setPc_peek (w : Word) (adr : Word) : (s.setPc w).peek adr = s.peek adr := rfl
@[simp] theorem setPc_writable (w : Word) (adr : Word) : (s.setPc w).writable adr = s.writable adr := rfl
@[simp] theorem setPc_busWrite (w : Word) (adr : Word) (u : Byte) : (s.setPc w).busWrite adr u = s.busWrite adr u := rfl

@[simp] theorem setFlags_a (f : Flags) : (s.setFlags f).a = s.a := rfl
@[simp] theorem setFlags_x (f : Flags) : (s.setFlags f).x = s.x := rfl
@[simp] theorem setFlags_y (f : Flags) : (s.setFlags f).y = s.y := rfl
@[simp] theorem setFlags_sp (f : Flags) : (s.setFlags f).sp = s.sp := rfl
@[simp] theorem setFlags_pc (f : Flags) : (s.setFlags f).pc = s.pc := rfl
@[simp] theorem setFlags_flags (f : Flags) : (s.setFlags f).flags = f := rfl
@[simp] theorem setFlags_halted (f : Flags) : (s.setFlags f).halted = s.halted := rfl
@[simp] theorem setFlags_nmiPrev (f : Flags) : (s.setFlags f).nmiPrev = s.nmiPrev := rfl
@[simp] theorem setFlags_nmiPending (f : Flags) : (s.setFlags f).nmiPending = s.nmiPending := rfl
@[simp] theorem setFlags_iPoll (f : Flags) : (s.setFlags f).iPoll = s.iPoll := rfl
@[simp] theorem setFlags_pollOk (f : Flags) : (s.setFlags f).pollOk = s.pollOk := rfl
@[simp] theorem setFlags_mem (f : Flags) : (s.setFlags f).mem = s.mem := rfl
@[simp] theorem setFlags_readOnly (f : Flags) : (s.setFlags f).readOnly = s.readOnly := rfl
@[simp] theorem setFlags_config (f : Flags) : (s.setFlags f).config = s.config := rfl
@[simp] theorem setFlags_irqLine (f : Flags) : (s.setFlags f).irqLine = s.irqLine := rfl
@[simp] theorem setFlags_nmiLine (f : Flags) : (s.setFlags f).nmiLine = s.nmiLine := rfl
@[simp] theorem setFlags_host (f : Flags) : (s.setFlags f).host = s.host := rfl
@[simp] theorem setFlags_outcome (f : Flags) : (s.setFlags f).outcome = s.outcome := rfl
@[simp] theorem setFlags_event (f : Flags) : (s.setFlags f).event = s.event := rfl
@[simp] theorem setFlags_cycles (f : Flags) : (s.setFlags f).cycles = s.cycles := rfl
@[simp] theorem setFlags_trace (f : Flags) : (s.setFlags f).trace = s.trace := rfl
@[simp] theorem setFlags_peek (f : Flags) (adr : Word) : (s.setFlags f).peek adr = s.peek adr := rfl
@[simp] theorem setFlags_writable (f : Flags) (adr : Word) : (s.setFlags f).writable adr = s.writable adr := rfl
@[simp] theorem setFlags_busWrite (f : Flags) (adr : Word) (u : Byte) : (s.setFlags f).busWrite adr u = s.busWrite adr u := rfl

@[simp] theorem setNZ_a (v : Byte) : (s.setNZ v).a = s.a := rfl
@[simp] theorem setNZ_x (v : Byte) : (s.setNZ v).x = s.x := rfl
@[simp] theorem setNZ_y (v : Byte) : (s.setNZ v).y = s.y := rfl
@[simp] theorem setNZ_sp (v : Byte) : (s.setNZ v).sp = s.sp := rfl
@[simp] theorem setNZ_pc (v : Byte) : (s.setNZ v).pc = s.pc := rfl
@[simp] theorem setNZ_flags (v : Byte) : (s.setNZ v).flags = s.flags.setNZ v := rfl
@[simp] theorem setNZ_halted (v : Byte) : (s.setNZ v).halted = s.halted := rfl
@[simp] theorem setNZ_nmiPrev (v : Byte) : (s.setNZ v).nmiPrev = s.nmiPrev := rfl
@[simp] theorem setNZ_nmiPending (v : Byte) : (s.setNZ v).nmiPending = s.nmiPending := rfl
@[simp] theorem setNZ_iPoll (v : Byte) : (s.setNZ v).iPoll = s.iPoll := rfl
@[simp] theorem setNZ_pollOk (v : Byte) : (s.setNZ v).pollOk = s.pollOk := rfl
@[simp] theorem setNZ_mem (v : Byte) : (s.setNZ v).mem = s.mem := rfl
@[simp] theorem setNZ_readOnly (v : Byte) : (s.setNZ v).readOnly = s.readOnly := rfl
@[simp] theorem setNZ_config (v : Byte) : (s.setNZ v).config = s.config := rfl
@[simp] theorem setNZ_irqLine (v : Byte) : (s.setNZ v).irqLine = s.irqLine := rfl
@[simp] theorem setNZ_nmiLine (v : Byte) : (s.setNZ v).nmiLine = s.nmiLine := rfl
@[simp] theorem setNZ_host (v : Byte) : (s.setNZ v).host = s.host := rfl
@[simp] theorem setNZ_outcome (v : Byte) : (s.setNZ v).outcome = s.outcome := rfl
@[simp] theorem setNZ_event (v : Byte) : (s.setNZ v).event = s.event := rfl
@[simp] theorem setNZ_cycles (v : Byte) : (s.setNZ v).cycles = s.cycles := rfl
@[simp] theorem setNZ_trace (v : Byte) : (s.setNZ v).trace = s.trace := rfl
@[simp] theorem setNZ_peek (v : Byte) (adr : Word) : (s.setNZ v).peek adr = s.peek adr := rfl
@[simp] theorem setNZ_writable (v : Byte) (adr : Word) : (s.setNZ v).writable adr = s.writable adr := rfl
@[simp] theorem setNZ_busWrite (v : Byte) (adr : Word) (u : Byte) : (s.setNZ v).busWrite adr u = s.busWrite adr u := rfl

@[simp] theorem setPoll_a (p i : Bool) : (s.setPoll p i).a = s.a := rfl
@[simp] theorem setPoll_x (p i : Bool) : (s.setPoll p i).x = s.x := rfl
@[simp] theorem setPoll_y (p i : Bool) : (s.setPoll p i).y = s.y := rfl
@[simp] theorem setPoll_sp (p i : Bool) : (s.setPoll p i).sp = s.sp := rfl
@[simp] theorem setPoll_pc (p i : Bool) : (s.setPoll p i).pc = s.pc := rfl
@[simp] theorem setPoll_flags (p i : Bool) : (s.setPoll p i).flags = s.flags := rfl
@[simp] theorem setPoll_halted (p i : Bool) : (s.setPoll p i).halted = s.halted := rfl
@[simp] theorem setPoll_nmiPrev (p i : Bool) : (s.setPoll p i).nmiPrev = s.nmiPrev := rfl
@[simp] theorem setPoll_nmiPending (p i : Bool) : (s.setPoll p i).nmiPending = s.nmiPending := rfl
@[simp] theorem setPoll_iPoll (p i : Bool) : (s.setPoll p i).iPoll = i := rfl
@[simp] theorem setPoll_pollOk (p i : Bool) : (s.setPoll p i).pollOk = p := rfl
@[simp] theorem setPoll_mem (p i : Bool) : (s.setPoll p i).mem = s.mem := rfl
@[simp] theorem setPoll_readOnly (p i : Bool) : (s.setPoll p i).readOnly = s.readOnly := rfl
@[simp] theorem setPoll_config (p i : Bool) : (s.setPoll p i).config = s.config := rfl
@[simp] theorem setPoll_irqLine (p i : Bool) : (s.setPoll p i).irqLine = s.irqLine := rfl
@[simp] theorem setPoll_nmiLine (p i : Bool) : (s.setPoll p i).nmiLine = s.nmiLine := rfl
@[simp] theorem setPoll_host (p i : Bool) : (s.setPoll p i).host = s.host := rfl
@[simp] theorem setPoll_outcome (p i : Bool) : (s.setPoll p i).outcome = s.outcome := rfl
@[simp] theorem setPoll_event (p i : Bool) : (s.setPoll p i).event = s.event := rfl
@[simp] theorem setPoll_cycles (p i : Bool) : (s.setPoll p i).cycles = s.cycles := rfl
@[simp] theorem setPoll_trace (p i : Bool) : (s.setPoll p i).trace = s.trace := rfl
@[simp] theorem setPoll_peek (p i : Bool) (adr : Word) : (s.setPoll p i).peek adr = s.peek adr := rfl
@[simp] theorem setPoll_writable (p i : Bool) (adr : Word) : (s.setPoll p i).writable adr = s.writable adr := rfl
@[simp] theorem setPoll_busWrite (p i : Bool) (adr : Word) (u : Byte) : (s.setPoll p i).busWrite adr u = s.busWrite adr u := rfl

@[simp] theorem clearHaltAndNmi_a : (s.clearHaltAndNmi).a = s.a := rfl
@[simp] theorem clearHaltAndNmi_x : (s.clearHaltAndNmi).x = s.x := rfl
@[simp] theorem clearHaltAndNmi_y : (s.clearHaltAndNmi).y = s.y := rfl
@[simp] theorem clearHaltAndNmi_sp : (s.clearHaltAndNmi).sp = s.sp := rfl
@[simp] theorem clearHaltAndNmi_pc : (s.clearHaltAndNmi).pc = s.pc := rfl
@[simp] theorem clearHaltAndNmi_flags : (s.clearHaltAndNmi).flags = s.flags := rfl
@[simp] theorem clearHaltAndNmi_halted : (s.clearHaltAndNmi).halted = false := rfl
@[simp] theorem clearHaltAndNmi_nmiPrev : (s.clearHaltAndNmi).nmiPrev = s.nmiPrev := rfl
@[simp] theorem clearHaltAndNmi_nmiPending : (s.clearHaltAndNmi).nmiPending = false := rfl
@[simp] theorem clearHaltAndNmi_iPoll : (s.clearHaltAndNmi).iPoll = s.iPoll := rfl
@[simp] theorem clearHaltAndNmi_pollOk : (s.clearHaltAndNmi).pollOk = s.pollOk := rfl
@[simp] theorem clearHaltAndNmi_mem : (s.clearHaltAndNmi).mem = s.mem := rfl
@[simp] theorem clearHaltAndNmi_readOnly : (s.clearHaltAndNmi).readOnly = s.readOnly := rfl
@[simp] theorem clearHaltAndNmi_config : (s.clearHaltAndNmi).config = s.config := rfl
@[simp] theorem clearHaltAndNmi_irqLine : (s.clearHaltAndNmi).irqLine = s.irqLine := rfl
@[simp] theorem clearHaltAndNmi_nmiLine : (s.clearHaltAndNmi).nmiLine = s.nmiLine := rfl
@[simp] theorem clearHaltAndNmi_host : (s.clearHaltAndNmi).host = s.host := rfl
@[simp] theorem clearHaltAndNmi_outcome : (s.clearHaltAndNmi).outcome = s.outcome := rfl
@[simp] theorem clearHaltAndNmi_event : (s.clearHaltAndNmi).event = s.event := rfl
@[simp] theorem clearHaltAndNmi_cycles : (s.clearHaltAndNmi).cycles = s.cycles := rfl
@[simp] theorem clearHaltAndNmi_trace : (s.clearHaltAndNmi).trace = s.trace := rfl
@[simp] theorem clearHaltAndNmi_peek (adr : Word) : (s.clearHaltAndNmi).peek adr = s.peek adr := rfl
@[simp] theorem clearHaltAndNmi_writable (adr : Word) : (s.clearHaltAndNmi).writable adr = s.writable adr := rfl
@[simp] theorem clearHaltAndNmi_busWrite (adr : Word) (u : Byte) : (s.clearHaltAndNmi).busWrite adr u = s.busWrite adr u := rfl

@[simp] theorem log_a (e : BusAccess) : (s.log e).a = s.a := rfl
@[simp] theorem log_x (e : BusAccess) : (s.log e).x = s.x := rfl
@[simp] theorem log_y (e : BusAccess) : (s.log e).y = s.y := rfl
@[simp] theorem log_sp (e : BusAccess) : (s.log e).sp = s.sp := rfl
@[simp] theorem log_pc (e : BusAccess) : (s.log e).pc = s.pc := rfl
@[simp] theorem log_flags (e : BusAccess) : (s.log e).flags = s.flags := rfl
@[simp] theorem log_halted (e : BusAccess) : (s.log e).halted = s.halted := rfl
@[simp] theorem log_nmiPrev (e : BusAccess) : (s.log e).nmiPrev = s.nmiPrev := rfl
@[simp] theorem log_nmiPending (e : BusAccess) : (s.log e).nmiPending = s.nmiPending := rfl
@[simp] theorem log_iPoll (e : BusAccess) : (s.log e).iPoll = s.iPoll := rfl
@[simp] theorem log_pollOk (e : BusAccess) : (s.log e).pollOk = s.pollOk := rfl
@[simp] theorem log_mem (e : BusAccess) : (s.log e).mem = s.mem := rfl
@[simp] theorem log_readOnly (e : BusAccess) : (s.log e).readOnly = s.readOnly := rfl
@[simp] theorem log_config (e : BusAccess) : (s.log e).config = s.config := rfl
@[simp] theorem log_irqLine (e : BusAccess) : (s.log e).irqLine = s.irqLine := rfl
@[simp] theorem log_nmiLine (e : BusAccess) : (s.log e).nmiLine = s.nmiLine := rfl
@[simp] theorem log_host (e : BusAccess) : (s.log e).host = s.host := rfl
@[simp] theorem log_outcome (e : BusAccess) : (s.log e).outcome = s.outcome := rfl
@[simp] theorem log_event (e : BusAccess) : (s.log e).event = s.event := rfl
@[simp] theorem log_cycles (e : BusAccess) : (s.log e).cycles = s.cycles := rfl
@[simp] theorem log_trace (e : BusAccess) : (s.log e).trace = s.trace ++ [e] := rfl
@[simp] theorem log_peek (e : BusAccess) (adr : Word) : (s.log e).peek adr = s.peek adr := rfl
@[simp] theorem log_writable (e : BusAccess) (adr : Word) : (s.log e).writable adr = s.writable adr := rfl
@[simp] theorem log_busWrite (e : BusAccess) (adr : Word) (u : Byte) : (s.log e).busWrite adr u = s.busWrite adr u := rfl

@[simp] theorem readCycle_a (w : Word) : (s.readCycle w).a = s.a := rfl
@[simp] theorem readCycle_x (w : Word) : (s.readCycle w).x = s.x := rfl
@[simp] theorem readCycle_y (w : Word) : (s.readCycle w).y = s.y := rfl
@[simp] theorem readCycle_sp (w : Word) : (s.readCycle w).sp = s.sp := rfl
@[simp] theorem readCycle_pc (w : Word) : (s.readCycle w).pc = s.pc := rfl
@[simp] theorem readCycle_flags (w : Word) : (s.readCycle w).flags = s.flags := rfl
@[simp] theorem readCycle_halted (w : Word) : (s.readCycle w).halted = s.halted := rfl
@[simp] theorem readCycle_nmiPrev (w : Word) : (s.readCycle w).nmiPrev = s.nmiPrev := rfl
@[simp] theorem readCycle_nmiPending (w : Word) : (s.readCycle w).nmiPending = s.nmiPending := rfl
@[simp] theorem readCycle_iPoll (w : Word) : (s.readCycle w).iPoll = s.iPoll := rfl
@[simp] theorem readCycle_pollOk (w : Word) : (s.readCycle w).pollOk = s.pollOk := rfl
@[simp] theorem readCycle_mem (w : Word) : (s.readCycle w).mem = s.mem := rfl
@[simp] theorem readCycle_readOnly (w : Word) : (s.readCycle w).readOnly = s.readOnly := rfl
@[simp] theorem readCycle_config (w : Word) : (s.readCycle w).config = s.config := rfl
@[simp] theorem readCycle_irqLine (w : Word) : (s.readCycle w).irqLine = s.irqLine := rfl
@[simp] theorem readCycle_nmiLine (w : Word) : (s.readCycle w).nmiLine = s.nmiLine := rfl
@[simp] theorem readCycle_host (w : Word) : (s.readCycle w).host = s.host := rfl
@[simp] theorem readCycle_outcome (w : Word) : (s.readCycle w).outcome = s.outcome := rfl
@[simp] theorem readCycle_event (w : Word) : (s.readCycle w).event = s.event := rfl
@[simp] theorem readCycle_cycles (w : Word) : (s.readCycle w).cycles = s.cycles := rfl
@[simp] theorem readCycle_trace (w : Word) : (s.readCycle w).trace = s.trace ++ [⟨.read, w, s.peek w⟩] := rfl
@[simp] theorem readCycle_peek (w : Word) (adr : Word) : (s.readCycle w).peek adr = s.peek adr := rfl
@[simp] theorem readCycle_writable (w : Word) (adr : Word) : (s.readCycle w).writable adr = s.writable adr := rfl
@[simp] theorem readCycle_busWrite (w : Word) (adr : Word) (u : Byte) : (s.readCycle w).busWrite adr u = s.busWrite adr u := rfl

@[simp] theorem fetchByte_a (b : Byte) : (s.fetchByte b).a = s.a := rfl
@[simp] theorem fetchByte_x (b : Byte) : (s.fetchByte b).x = s.x := rfl
@[simp] theorem fetchByte_y (b : Byte) : (s.fetchByte b).y = s.y := rfl
@[simp] theorem fetchByte_sp (b : Byte) : (s.fetchByte b).sp = s.sp := rfl
@[simp] theorem fetchByte_pc (b : Byte) : (s.fetchByte b).pc = s.pc + 1 := rfl
@[simp] theorem fetchByte_flags (b : Byte) : (s.fetchByte b).flags = s.flags := rfl
@[simp] theorem fetchByte_halted (b : Byte) : (s.fetchByte b).halted = s.halted := rfl
@[simp] theorem fetchByte_nmiPrev (b : Byte) : (s.fetchByte b).nmiPrev = s.nmiPrev := rfl
@[simp] theorem fetchByte_nmiPending (b : Byte) : (s.fetchByte b).nmiPending = s.nmiPending := rfl
@[simp] theorem fetchByte_iPoll (b : Byte) : (s.fetchByte b).iPoll = s.iPoll := rfl
@[simp] theorem fetchByte_pollOk (b : Byte) : (s.fetchByte b).pollOk = s.pollOk := rfl
@[simp] theorem fetchByte_mem (b : Byte) : (s.fetchByte b).mem = s.mem := rfl
@[simp] theorem fetchByte_readOnly (b : Byte) : (s.fetchByte b).readOnly = s.readOnly := rfl
@[simp] theorem fetchByte_config (b : Byte) : (s.fetchByte b).config = s.config := rfl
@[simp] theorem fetchByte_irqLine (b : Byte) : (s.fetchByte b).irqLine = s.irqLine := rfl
@[simp] theorem fetchByte_nmiLine (b : Byte) : (s.fetchByte b).nmiLine = s.nmiLine := rfl
@[simp] theorem fetchByte_host (b : Byte) : (s.fetchByte b).host = s.host := rfl
@[simp] theorem fetchByte_outcome (b : Byte) : (s.fetchByte b).outcome = s.outcome := rfl
@[simp] theorem fetchByte_event (b : Byte) : (s.fetchByte b).event = s.event := rfl
@[simp] theorem fetchByte_cycles (b : Byte) : (s.fetchByte b).cycles = s.cycles := rfl
@[simp] theorem fetchByte_trace (b : Byte) : (s.fetchByte b).trace = s.trace ++ [⟨.read, s.pc, b⟩] := rfl
@[simp] theorem fetchByte_peek (b : Byte) (adr : Word) : (s.fetchByte b).peek adr = s.peek adr := rfl
@[simp] theorem fetchByte_writable (b : Byte) (adr : Word) : (s.fetchByte b).writable adr = s.writable adr := rfl
@[simp] theorem fetchByte_busWrite (b : Byte) (adr : Word) (u : Byte) : (s.fetchByte b).busWrite adr u = s.busWrite adr u := rfl

@[simp] theorem memWrite_a (w : Word) (v : Byte) : (s.memWrite w v).a = s.a := rfl
@[simp] theorem memWrite_x (w : Word) (v : Byte) : (s.memWrite w v).x = s.x := rfl
@[simp] theorem memWrite_y (w : Word) (v : Byte) : (s.memWrite w v).y = s.y := rfl
@[simp] theorem memWrite_sp (w : Word) (v : Byte) : (s.memWrite w v).sp = s.sp := rfl
@[simp] theorem memWrite_pc (w : Word) (v : Byte) : (s.memWrite w v).pc = s.pc := rfl
@[simp] theorem memWrite_flags (w : Word) (v : Byte) : (s.memWrite w v).flags = s.flags := rfl
@[simp] theorem memWrite_halted (w : Word) (v : Byte) : (s.memWrite w v).halted = s.halted := rfl
@[simp] theorem memWrite_nmiPrev (w : Word) (v : Byte) : (s.memWrite w v).nmiPrev = s.nmiPrev := rfl
@[simp] theorem memWrite_nmiPending (w : Word) (v : Byte) : (s.memWrite w v).nmiPending = s.nmiPending := rfl
@[simp] theorem memWrite_iPoll (w : Word) (v : Byte) : (s.memWrite w v).iPoll = s.iPoll := rfl
@[simp] theorem memWrite_pollOk (w : Word) (v : Byte) : (s.memWrite w v).pollOk = s.pollOk := rfl
@[simp] theorem memWrite_mem (w : Word) (v : Byte) : (s.memWrite w v).mem = (s.busWrite w v).1 := rfl
@[simp] theorem memWrite_readOnly (w : Word) (v : Byte) : (s.memWrite w v).readOnly = s.readOnly := rfl
@[simp] theorem memWrite_config (w : Word) (v : Byte) : (s.memWrite w v).config = s.config := rfl
@[simp] theorem memWrite_irqLine (w : Word) (v : Byte) : (s.memWrite w v).irqLine = s.irqLine := rfl
@[simp] theorem memWrite_nmiLine (w : Word) (v : Byte) : (s.memWrite w v).nmiLine = s.nmiLine := rfl
@[simp] theorem memWrite_host (w : Word) (v : Byte) : (s.memWrite w v).host = s.host := rfl
@[simp] theorem memWrite_outcome (w : Word) (v : Byte) : (s.memWrite w v).outcome = s.outcome := rfl
@[simp] theorem memWrite_event (w : Word) (v : Byte) : (s.memWrite w v).event = s.event := rfl
@[simp] theorem memWrite_cycles (w : Word) (v : Byte) : (s.memWrite w v).cycles = s.cycles := rfl
@[simp] theorem memWrite_trace (w : Word) (v : Byte) : (s.memWrite w v).trace = s.trace ++ [⟨.write, w, v⟩] := rfl
@[simp] theorem memWrite_writable (w : Word) (v : Byte) (adr : Word) : (s.memWrite w v).writable adr = s.writable adr := rfl

@[simp] theorem push_a (v : Byte) : (s.push v).a = s.a := rfl
@[simp] theorem push_x (v : Byte) : (s.push v).x = s.x := rfl
@[simp] theorem push_y (v : Byte) : (s.push v).y = s.y := rfl
@[simp] theorem push_sp (v : Byte) : (s.push v).sp = s.sp - 1 := rfl
@[simp] theorem push_pc (v : Byte) : (s.push v).pc = s.pc := rfl
@[simp] theorem push_flags (v : Byte) : (s.push v).flags = s.flags := rfl
@[simp] theorem push_halted (v : Byte) : (s.push v).halted = s.halted := rfl
@[simp] theorem push_nmiPrev (v : Byte) : (s.push v).nmiPrev = s.nmiPrev := rfl
@[simp] theorem push_nmiPending (v : Byte) : (s.push v).nmiPending = s.nmiPending := rfl
@[simp] theorem push_iPoll (v : Byte) : (s.push v).iPoll = s.iPoll := rfl
@[simp] theorem push_pollOk (v : Byte) : (s.push v).pollOk = s.pollOk := rfl
@[simp] theorem push_mem (v : Byte) : (s.push v).mem = (s.busWrite (stackAddr s.sp) v).1 := rfl
@[simp] theorem push_readOnly (v : Byte) : (s.push v).readOnly = s.readOnly := rfl
@[simp] theorem push_config (v : Byte) : (s.push v).config = s.config := rfl
@[simp] theorem push_irqLine (v : Byte) : (s.push v).irqLine = s.irqLine := rfl
@[simp] theorem push_nmiLine (v : Byte) : (s.push v).nmiLine = s.nmiLine := rfl
@[simp] theorem push_host (v : Byte) : (s.push v).host = s.host := rfl
@[simp] theorem push_outcome (v : Byte) : (s.push v).outcome = s.outcome := rfl
@[simp] theorem push_event (v : Byte) : (s.push v).event = s.event := rfl
@[simp] theorem push_cycles (v : Byte) : (s.push v).cycles = s.cycles := rfl
@[simp] theorem push_trace (v : Byte) : (s.push v).trace = s.trace ++ [⟨.write, stackAddr s.sp, v⟩] := rfl
@[simp] theorem push_writable (v : Byte) (adr : Word) : (s.push v).writable adr = s.writable adr := rfl

@[simp] theorem clearTrace_a : (s.clearTrace).a = s.a := rfl
@[simp] theorem clearTrace_x : (s.clearTrace).x = s.x := rfl
@[simp] theorem clearTrace_y : (s.clearTrace).y = s.y := rfl
@[simp] theorem clearTrace_sp : (s.clearTrace).sp = s.sp := rfl
@[simp] theorem clearTrace_pc : (s.clearTrace).pc = s.pc := rfl
@[simp] theorem clearTrace_flags : (s.clearTrace).flags = s.flags := rfl
@[simp] theorem clearTrace_halted : (s.clearTrace).halted = s.halted := rfl
@[simp] theorem clearTrace_nmiPrev : (s.clearTrace).nmiPrev = s.nmiPrev := rfl
@[simp] theorem clearTrace_nmiPending : (s.clearTrace).nmiPending = s.nmiPending := rfl
@[simp] theorem clearTrace_iPoll : (s.clearTrace).iPoll = s.iPoll := rfl
@[simp] theorem clearTrace_pollOk : (s.clearTrace).pollOk = s.pollOk := rfl
@[simp] theorem clearTrace_mem : (s.clearTrace).mem = s.mem := rfl
@[simp] theorem clearTrace_readOnly : (s.clearTrace).readOnly = s.readOnly := rfl
@[simp] theorem clearTrace_config : (s.clearTrace).config = s.config := rfl
@[simp] theorem clearTrace_irqLine : (s.clearTrace).irqLine = s.irqLine := rfl
@[simp] theorem clearTrace_nmiLine : (s.clearTrace).nmiLine = s.nmiLine := rfl
@[simp] theorem clearTrace_host : (s.clearTrace).host = s.host := rfl
@[simp] theorem clearTrace_outcome : (s.clearTrace).outcome = s.outcome := rfl
@[simp] theorem clearTrace_event : (s.clearTrace).event = s.event := rfl
@[simp] theorem clearTrace_cycles : (s.clearTrace).cycles = s.cycles := rfl
@[simp] theorem clearTrace_trace : (s.clearTrace).trace = [] := rfl
@[simp] theorem clearTrace_peek (adr : Word) : (s.clearTrace).peek adr = s.peek adr := rfl
@[simp] theorem clearTrace_writable (adr : Word) : (s.clearTrace).writable adr = s.writable adr := rfl
@[simp] theorem clearTrace_busWrite (adr : Word) (u : Byte) : (s.clearTrace).busWrite adr u = s.busWrite adr u := rfl

@[simp] theorem begin_a (op : Byte) : (s.begin op).a = s.a := rfl
@[simp] theorem begin_x (op : Byte) : (s.begin op).x = s.x := rfl
@[simp] theorem begin_y (op : Byte) : (s.begin op).y = s.y := rfl
@[simp] theorem begin_sp (op : Byte) : (s.begin op).sp = s.sp := rfl
@[simp] theorem begin_pc (op : Byte) : (s.begin op).pc = s.pc + 1 := rfl
@[simp] theorem begin_flags (op : Byte) : (s.begin op).flags = s.flags := rfl
@[simp] theorem begin_halted (op : Byte) : (s.begin op).halted = s.halted := rfl
@[simp] theorem begin_nmiPrev (op : Byte) : (s.begin op).nmiPrev = s.nmiPrev := rfl
@[simp] theorem begin_nmiPending (op : Byte) : (s.begin op).nmiPending = s.nmiPending := rfl
@[simp] theorem begin_iPoll (op : Byte) : (s.begin op).iPoll = s.iPoll := rfl
@[simp] theorem begin_pollOk (op : Byte) : (s.begin op).pollOk = s.pollOk := rfl
@[simp] theorem begin_mem (op : Byte) : (s.begin op).mem = s.mem := rfl
@[simp] theorem begin_readOnly (op : Byte) : (s.begin op).readOnly = s.readOnly := rfl
@[simp] theorem begin_config (op : Byte) : (s.begin op).config = s.config := rfl
@[simp] theorem begin_irqLine (op : Byte) : (s.begin op).irqLine = s.irqLine := rfl
@[simp] theorem begin_nmiLine (op : Byte) : (s.begin op).nmiLine = s.nmiLine := rfl
@[simp] theorem begin_host (op : Byte) : (s.begin op).host = s.host := rfl
@[simp] theorem begin_outcome (op : Byte) : (s.begin op).outcome = s.outcome := rfl
@[simp] theorem begin_event (op : Byte) : (s.begin op).event = s.event := rfl
@[simp] theorem begin_cycles (op : Byte) : (s.begin op).cycles = s.cycles := rfl
@[simp] theorem begin_trace (op : Byte) : (s.begin op).trace = [⟨.read, s.pc, op⟩] := rfl
@[simp] theorem begin_peek (op : Byte) (adr : Word) : (s.begin op).peek adr = s.peek adr := rfl
@[simp] theorem begin_writable (op : Byte) (adr : Word) : (s.begin op).writable adr = s.writable adr := rfl
@[simp] theorem begin_busWrite (op : Byte) (adr : Word) (u : Byte) : (s.begin op).busWrite adr u = s.busWrite adr u := rfl

@[simp] theorem report_a (o : StepOutcome) (e : StepEvent) (k : Nat) : (s.report o e k).a = s.a := rfl
@[simp] theorem report_x (o : StepOutcome) (e : StepEvent) (k : Nat) : (s.report o e k).x = s.x := rfl
@[simp] theorem report_y (o : StepOutcome) (e : StepEvent) (k : Nat) : (s.report o e k).y = s.y := rfl
@[simp] theorem report_sp (o : StepOutcome) (e : StepEvent) (k : Nat) : (s.report o e k).sp = s.sp := rfl
@[simp] theorem report_pc (o : StepOutcome) (e : StepEvent) (k : Nat) : (s.report o e k).pc = s.pc := rfl
@[simp] theorem report_flags (o : StepOutcome) (e : StepEvent) (k : Nat) : (s.report o e k).flags = s.flags := rfl
@[simp] theorem report_halted (o : StepOutcome) (e : StepEvent) (k : Nat) : (s.report o e k).halted = s.halted := rfl
@[simp] theorem report_nmiPrev (o : StepOutcome) (e : StepEvent) (k : Nat) : (s.report o e k).nmiPrev = s.nmiPrev := rfl
@[simp] theorem report_nmiPending (o : StepOutcome) (e : StepEvent) (k : Nat) : (s.report o e k).nmiPending = s.nmiPending := rfl
@[simp] theorem report_iPoll (o : StepOutcome) (e : StepEvent) (k : Nat) : (s.report o e k).iPoll = s.iPoll := rfl
@[simp] theorem report_pollOk (o : StepOutcome) (e : StepEvent) (k : Nat) : (s.report o e k).pollOk = s.pollOk := rfl
@[simp] theorem report_mem (o : StepOutcome) (e : StepEvent) (k : Nat) : (s.report o e k).mem = s.mem := rfl
@[simp] theorem report_readOnly (o : StepOutcome) (e : StepEvent) (k : Nat) : (s.report o e k).readOnly = s.readOnly := rfl
@[simp] theorem report_config (o : StepOutcome) (e : StepEvent) (k : Nat) : (s.report o e k).config = s.config := rfl
@[simp] theorem report_irqLine (o : StepOutcome) (e : StepEvent) (k : Nat) : (s.report o e k).irqLine = s.irqLine := rfl
@[simp] theorem report_nmiLine (o : StepOutcome) (e : StepEvent) (k : Nat) : (s.report o e k).nmiLine = s.nmiLine := rfl
@[simp] theorem report_host (o : StepOutcome) (e : StepEvent) (k : Nat) : (s.report o e k).host = s.host := rfl
@[simp] theorem report_outcome (o : StepOutcome) (e : StepEvent) (k : Nat) : (s.report o e k).outcome = o := rfl
@[simp] theorem report_event (o : StepOutcome) (e : StepEvent) (k : Nat) : (s.report o e k).event = e := rfl
@[simp] theorem report_cycles (o : StepOutcome) (e : StepEvent) (k : Nat) : (s.report o e k).cycles = k := rfl
@[simp] theorem report_trace (o : StepOutcome) (e : StepEvent) (k : Nat) : (s.report o e k).trace = s.trace := rfl
@[simp] theorem report_peek (o : StepOutcome) (e : StepEvent) (k : Nat) (adr : Word) : (s.report o e k).peek adr = s.peek adr := rfl
@[simp] theorem report_writable (o : StepOutcome) (e : StepEvent) (k : Nat) (adr : Word) : (s.report o e k).writable adr = s.writable adr := rfl
@[simp] theorem report_busWrite (o : StepOutcome) (e : StepEvent) (k : Nat) (adr : Word) (u : Byte) : (s.report o e k).busWrite adr u = s.busWrite adr u := rfl

@[simp] theorem finish_a (op : Byte) (i₀ c : Bool) (p : Nat) : (s.finish op i₀ c p).a = s.a := rfl
@[simp] theorem finish_x (op : Byte) (i₀ c : Bool) (p : Nat) : (s.finish op i₀ c p).x = s.x := rfl
@[simp] theorem finish_y (op : Byte) (i₀ c : Bool) (p : Nat) : (s.finish op i₀ c p).y = s.y := rfl
@[simp] theorem finish_sp (op : Byte) (i₀ c : Bool) (p : Nat) : (s.finish op i₀ c p).sp = s.sp := rfl
@[simp] theorem finish_pc (op : Byte) (i₀ c : Bool) (p : Nat) : (s.finish op i₀ c p).pc = s.pc := rfl
@[simp] theorem finish_flags (op : Byte) (i₀ c : Bool) (p : Nat) : (s.finish op i₀ c p).flags = s.flags := rfl
@[simp] theorem finish_halted (op : Byte) (i₀ c : Bool) (p : Nat) : (s.finish op i₀ c p).halted = s.halted := rfl
@[simp] theorem finish_nmiPrev (op : Byte) (i₀ c : Bool) (p : Nat) : (s.finish op i₀ c p).nmiPrev = s.nmiPrev := rfl
@[simp] theorem finish_nmiPending (op : Byte) (i₀ c : Bool) (p : Nat) : (s.finish op i₀ c p).nmiPending = s.nmiPending := rfl
@[simp] theorem finish_iPoll (op : Byte) (i₀ c : Bool) (p : Nat) : (s.finish op i₀ c p).iPoll = (if lagsPoll (descriptor op).operation then i₀ else s.flags.i) := rfl
@[simp] theorem finish_pollOk (op : Byte) (i₀ c : Bool) (p : Nat) : (s.finish op i₀ c p).pollOk = ((descriptor op).operation != .brk) := rfl
@[simp] theorem finish_mem (op : Byte) (i₀ c : Bool) (p : Nat) : (s.finish op i₀ c p).mem = s.mem := rfl
@[simp] theorem finish_readOnly (op : Byte) (i₀ c : Bool) (p : Nat) : (s.finish op i₀ c p).readOnly = s.readOnly := rfl
@[simp] theorem finish_config (op : Byte) (i₀ c : Bool) (p : Nat) : (s.finish op i₀ c p).config = s.config := rfl
@[simp] theorem finish_irqLine (op : Byte) (i₀ c : Bool) (p : Nat) : (s.finish op i₀ c p).irqLine = s.irqLine := rfl
@[simp] theorem finish_nmiLine (op : Byte) (i₀ c : Bool) (p : Nat) : (s.finish op i₀ c p).nmiLine = s.nmiLine := rfl
@[simp] theorem finish_host (op : Byte) (i₀ c : Bool) (p : Nat) : (s.finish op i₀ c p).host = s.host := rfl
@[simp] theorem finish_outcome (op : Byte) (i₀ c : Bool) (p : Nat) : (s.finish op i₀ c p).outcome = .ok := rfl
@[simp] theorem finish_event (op : Byte) (i₀ c : Bool) (p : Nat) : (s.finish op i₀ c p).event = eventOf op := rfl
@[simp] theorem finish_cycles (op : Byte) (i₀ c : Bool) (p : Nat) : (s.finish op i₀ c p).cycles = realizedCycles (descriptor op) c p := rfl
@[simp] theorem finish_trace (op : Byte) (i₀ c : Bool) (p : Nat) : (s.finish op i₀ c p).trace = s.trace := rfl
@[simp] theorem finish_peek (op : Byte) (i₀ c : Bool) (p : Nat) (adr : Word) : (s.finish op i₀ c p).peek adr = s.peek adr := rfl
@[simp] theorem finish_writable (op : Byte) (i₀ c : Bool) (p : Nat) (adr : Word) : (s.finish op i₀ c p).writable adr = s.writable adr := rfl
@[simp] theorem finish_busWrite (op : Byte) (i₀ c : Bool) (p : Nat) (adr : Word) (u : Byte) : (s.finish op i₀ c p).busWrite adr u = s.busWrite adr u := rfl

@[simp] theorem halt_a (op : Byte) : (s.halt op).a = s.a := rfl
@[simp] theorem halt_x (op : Byte) : (s.halt op).x = s.x := rfl
@[simp] theorem halt_y (op : Byte) : (s.halt op).y = s.y := rfl
@[simp] theorem halt_sp (op : Byte) : (s.halt op).sp = s.sp := rfl
@[simp] theorem halt_pc (op : Byte) : (s.halt op).pc = s.pc := rfl
@[simp] theorem halt_flags (op : Byte) : (s.halt op).flags = s.flags := rfl
@[simp] theorem halt_halted (op : Byte) : (s.halt op).halted = true := rfl
@[simp] theorem halt_nmiPrev (op : Byte) : (s.halt op).nmiPrev = s.nmiPrev := rfl
@[simp] theorem halt_nmiPending (op : Byte) : (s.halt op).nmiPending = s.nmiPending := rfl
@[simp] theorem halt_iPoll (op : Byte) : (s.halt op).iPoll = s.iPoll := rfl
@[simp] theorem halt_pollOk (op : Byte) : (s.halt op).pollOk = s.pollOk := rfl
@[simp] theorem halt_mem (op : Byte) : (s.halt op).mem = s.mem := rfl
@[simp] theorem halt_readOnly (op : Byte) : (s.halt op).readOnly = s.readOnly := rfl
@[simp] theorem halt_config (op : Byte) : (s.halt op).config = s.config := rfl
@[simp] theorem halt_irqLine (op : Byte) : (s.halt op).irqLine = s.irqLine := rfl
@[simp] theorem halt_nmiLine (op : Byte) : (s.halt op).nmiLine = s.nmiLine := rfl
@[simp] theorem halt_host (op : Byte) : (s.halt op).host = s.host := rfl
@[simp] theorem halt_outcome (op : Byte) : (s.halt op).outcome = .halted := rfl
@[simp] theorem halt_event (op : Byte) : (s.halt op).event = .instruction op := rfl
@[simp] theorem halt_cycles (op : Byte) : (s.halt op).cycles = realizedCycles (descriptor op) false 0 := rfl
@[simp] theorem halt_trace (op : Byte) : (s.halt op).trace = s.trace := rfl
@[simp] theorem halt_peek (op : Byte) (adr : Word) : (s.halt op).peek adr = s.peek adr := rfl
@[simp] theorem halt_writable (op : Byte) (adr : Word) : (s.halt op).writable adr = s.writable adr := rfl
@[simp] theorem halt_busWrite (op : Byte) (adr : Word) (u : Byte) : (s.halt op).busWrite adr u = s.busWrite adr u := rfl

@[simp] theorem latchNmi_a : (s.latchNmi).a = s.a := rfl
@[simp] theorem latchNmi_x : (s.latchNmi).x = s.x := rfl
@[simp] theorem latchNmi_y : (s.latchNmi).y = s.y := rfl
@[simp] theorem latchNmi_sp : (s.latchNmi).sp = s.sp := rfl
@[simp] theorem latchNmi_pc : (s.latchNmi).pc = s.pc := rfl
@[simp] theorem latchNmi_flags : (s.latchNmi).flags = s.flags := rfl
@[simp] theorem latchNmi_halted : (s.latchNmi).halted = s.halted := rfl
@[simp] theorem latchNmi_nmiPrev : (s.latchNmi).nmiPrev = s.nmiLine := rfl
@[simp] theorem latchNmi_nmiPending : (s.latchNmi).nmiPending = (s.nmiPending || (s.nmiLine && !s.nmiPrev)) := rfl
@[simp] theorem latchNmi_iPoll : (s.latchNmi).iPoll = s.iPoll := rfl
@[simp] theorem latchNmi_pollOk : (s.latchNmi).pollOk = s.pollOk := rfl
@[simp] theorem latchNmi_mem : (s.latchNmi).mem = s.mem := rfl
@[simp] theorem latchNmi_readOnly : (s.latchNmi).readOnly = s.readOnly := rfl
@[simp] theorem latchNmi_config : (s.latchNmi).config = s.config := rfl
@[simp] theorem latchNmi_irqLine : (s.latchNmi).irqLine = s.irqLine := rfl
@[simp] theorem latchNmi_nmiLine : (s.latchNmi).nmiLine = s.nmiLine := rfl
@[simp] theorem latchNmi_host : (s.latchNmi).host = s.host := rfl
@[simp] theorem latchNmi_outcome : (s.latchNmi).outcome = s.outcome := rfl
@[simp] theorem latchNmi_event : (s.latchNmi).event = s.event := rfl
@[simp] theorem latchNmi_cycles : (s.latchNmi).cycles = s.cycles := rfl
@[simp] theorem latchNmi_trace : (s.latchNmi).trace = s.trace := rfl
@[simp] theorem latchNmi_peek (adr : Word) : (s.latchNmi).peek adr = s.peek adr := rfl
@[simp] theorem latchNmi_writable (adr : Word) : (s.latchNmi).writable adr = s.writable adr := rfl
@[simp] theorem latchNmi_busWrite (adr : Word) (u : Byte) : (s.latchNmi).busWrite adr u = s.busWrite adr u := rfl

@[simp] theorem acknowledgeNmi_a : (s.acknowledgeNmi).a = s.a := rfl
@[simp] theorem acknowledgeNmi_x : (s.acknowledgeNmi).x = s.x := rfl
@[simp] theorem acknowledgeNmi_y : (s.acknowledgeNmi).y = s.y := rfl
@[simp] theorem acknowledgeNmi_sp : (s.acknowledgeNmi).sp = s.sp := rfl
@[simp] theorem acknowledgeNmi_pc : (s.acknowledgeNmi).pc = s.pc := rfl
@[simp] theorem acknowledgeNmi_flags : (s.acknowledgeNmi).flags = s.flags := rfl
@[simp] theorem acknowledgeNmi_halted : (s.acknowledgeNmi).halted = s.halted := rfl
@[simp] theorem acknowledgeNmi_nmiPrev : (s.acknowledgeNmi).nmiPrev = s.nmiPrev := rfl
@[simp] theorem acknowledgeNmi_nmiPending : (s.acknowledgeNmi).nmiPending = false := rfl
@[simp] theorem acknowledgeNmi_iPoll : (s.acknowledgeNmi).iPoll = s.iPoll := rfl
@[simp] theorem acknowledgeNmi_pollOk : (s.acknowledgeNmi).pollOk = s.pollOk := rfl
@[simp] theorem acknowledgeNmi_mem : (s.acknowledgeNmi).mem = s.mem := rfl
@[simp] theorem acknowledgeNmi_readOnly : (s.acknowledgeNmi).readOnly = s.readOnly := rfl
@[simp] theorem acknowledgeNmi_config : (s.acknowledgeNmi).config = s.config := rfl
@[simp] theorem acknowledgeNmi_irqLine : (s.acknowledgeNmi).irqLine = s.irqLine := rfl
@[simp] theorem acknowledgeNmi_nmiLine : (s.acknowledgeNmi).nmiLine = s.nmiLine := rfl
@[simp] theorem acknowledgeNmi_host : (s.acknowledgeNmi).host = s.host := rfl
@[simp] theorem acknowledgeNmi_outcome : (s.acknowledgeNmi).outcome = s.outcome := rfl
@[simp] theorem acknowledgeNmi_event : (s.acknowledgeNmi).event = s.event := rfl
@[simp] theorem acknowledgeNmi_cycles : (s.acknowledgeNmi).cycles = s.cycles := rfl
@[simp] theorem acknowledgeNmi_trace : (s.acknowledgeNmi).trace = s.trace := rfl
@[simp] theorem acknowledgeNmi_peek (adr : Word) : (s.acknowledgeNmi).peek adr = s.peek adr := rfl
@[simp] theorem acknowledgeNmi_writable (adr : Word) : (s.acknowledgeNmi).writable adr = s.writable adr := rfl
@[simp] theorem acknowledgeNmi_busWrite (adr : Word) (u : Byte) : (s.acknowledgeNmi).busWrite adr u = s.busWrite adr u := rfl

@[simp] theorem dummyRead_eq (w : Word) : s.dummyRead w = s.readCycle w := rfl
@[simp] theorem memRead_fst (w : Word) : (s.memRead w).1 = s.peek w := rfl
@[simp] theorem memRead_snd (w : Word) : (s.memRead w).2 = s.readCycle w := rfl
@[simp] theorem pull_fst : s.pull.1 = s.peek (stackAddr (s.sp + 1)) := rfl
@[simp] theorem pull_snd : s.pull.2 = (s.setSp (s.sp + 1)).readCycle (stackAddr (s.sp + 1)) := rfl
@[simp] theorem fetchNext_eq : s.fetchNext = s.fetchByte (s.peek s.pc) := rfl
@[simp] theorem fetchWord_eq (w : Word) : s.fetchWord w = (s.fetchByte (loByte w)).fetchByte (hiByte w) := rfl

end Sys2Proof.Machine.State
end

