-- ==== Sys2Proof/Laws/Memory.lean ====
section
/-! SUPPORT. The laws of memory: a read after a write, what a write leaves alone, and that every write keeps the canonical
form, in which equal memories are equal lists. -/

namespace Sys2Proof.Machine

namespace Memory

theorem wfFrom_mono {lo lo' : Nat} {m : Memory} (h : wfFrom lo m = true) (hl : lo' ≤ lo) : wfFrom lo' m = true := by
  cases m with
  | nil => rfl
  | cons c rest => simp [wfFrom] at h ⊢; grind

theorem read_below {lo k : Nat} {m : Memory} (h : wfFrom lo m = true) (hk : k < lo) : read m k = unlisted := by
  cases m with
  | nil => rfl
  | cons c rest => simp [wfFrom] at h; simp [read]; intro; omega

theorem entry_wfFrom {lo k : Nat} {b : Byte} {rest : Memory} (h : wfFrom (k + 1) rest = true) (hl : lo ≤ k) (hk : k < 65536) :
    wfFrom lo (entry k b rest) = true := by
  unfold entry
  split
  · exact wfFrom_mono h (by omega)
  · simp_all [wfFrom]

theorem read_entry {k j : Nat} {b : Byte} {rest : Memory} (h : wfFrom (k + 1) rest = true) :
    read (entry k b rest) j = if j = k then b else if j < k then unlisted else read rest j := by
  unfold entry
  split
  · rcases lt_trichotomy j k with hj | hj | hj
    · simp [read_below h (show j < k + 1 by omega), hj, hj.ne]
    · simp_all [read_below h (show k < k + 1 by omega)]
    · simp [show ¬ j < k by omega, hj.ne']
  · simp only [read]; grind

/-- A write keeps the canonical form. -/
theorem write_wfFrom {lo k : Nat} {m : Memory} {b : Byte} (h : wfFrom lo m = true) (hl : lo ≤ k) (hk : k < 65536) :
    wfFrom lo (write m k b) = true := by
  induction m generalizing lo with
  | nil => exact entry_wfFrom rfl hl hk
  | cons c rest ih =>
    obtain ⟨j, c⟩ := c
    simp [wfFrom] at h
    simp only [write]
    split
    · exact entry_wfFrom (by simp [wfFrom]; grind) hl hk
    · split
      · exact entry_wfFrom (by grind) hl hk
      · simp [wfFrom]; exact ⟨h.1, ih h.2 (by omega)⟩

/-- Reading after a write: the written byte at its address, every other address as before. -/
theorem read_write {lo k j : Nat} {m : Memory} {b : Byte} (h : wfFrom lo m = true) (hl : lo ≤ k) :
    read (write m k b) j = if j = k then b else read m j := by
  induction m generalizing lo with
  | nil => rw [write, read_entry rfl]; simp [read]
  | cons c rest ih =>
    obtain ⟨i, c⟩ := c
    simp [wfFrom] at h
    simp only [write]
    split
    · rw [read_entry (by simp [wfFrom]; grind)]; simp only [read]; grind
    · split
      · rw [read_entry (by grind)]; simp only [read]; grind
      · simp only [read]
        rw [ih h.2 (by omega)]; grind

/-- In the canonical form, memories that read alike are equal. -/
theorem ext_of_read {lo : Nat} {m m' : Memory} (h : wfFrom lo m = true) (h' : wfFrom lo m' = true)
    (hr : ∀ k, read m k = read m' k) : m = m' := by
  induction m generalizing lo m' with
  | nil =>
    cases m' with
    | nil => rfl
    | cons c rest => have := hr c.1; simp_all [wfFrom, read]
  | cons c rest ih =>
    obtain ⟨j, c⟩ := c
    cases m' with
    | nil => have := hr j; simp_all [wfFrom, read]
    | cons d rest' =>
      obtain ⟨i, d⟩ := d
      simp [wfFrom] at h h'
      have hji : j = i := by
        have h1 := hr j
        have h2 := hr i
        simp only [read] at h1 h2
        grind
      subst hji
      have hcd : c = d := by simpa [read] using hr j
      subst hcd
      congr 1
      refine ih h.2 h'.2 fun k => ?_
      by_cases hk : k < j + 1
      · rw [read_below h.2 hk, read_below h'.2 hk]
      · have := hr k; simp only [read] at this; grind

end Memory

namespace State

variable {s : State}

theorem busWrite_wf (h : s.mem.wf = true) (w : Word) (v : Byte) : (s.busWrite w v).1.wf = true := by
  unfold busWrite
  split
  · exact Memory.write_wfFrom h (Nat.zero_le _) w.isLt
  · exact h

theorem memWrite_wf (h : s.mem.wf = true) (w : Word) (v : Byte) : (s.memWrite w v).mem.wf = true := busWrite_wf h w v

theorem push_wf (h : s.mem.wf = true) (v : Byte) : (s.push v).mem.wf = true := busWrite_wf h _ v

theorem busWrite_read (h : s.mem.wf = true) (w a : Word) (v : Byte) :
    Memory.read (s.busWrite w v).1 a.toNat = if a = w ∧ s.writable w = true then v else s.peek a := by
  unfold busWrite
  by_cases hw : s.writable w = true
  · simp only [hw, if_true, and_true]
    rw [Memory.read_write h (Nat.zero_le _)]
    simp [← BitVec.toNat_inj, peek]
  · simp [hw, peek]

/-- What one bus write does to every byte (20_memory.md R62). -/
theorem memWrite_peek (h : s.mem.wf = true) (w a : Word) (v : Byte) :
    (s.memWrite w v).peek a = if a = w ∧ s.writable w = true then v else s.peek a := busWrite_read h w a v

theorem push_peek (h : s.mem.wf = true) (a : Word) (v : Byte) :
    (s.push v).peek a = if a = stackAddr s.sp ∧ s.writable (stackAddr s.sp) = true then v else s.peek a :=
  busWrite_read h _ a v

/-- A write the bus rejects changes no memory (20_memory.md R62). -/
theorem memWrite_rejected {w : Word} (h : s.writable w = false) (v : Byte) : (s.memWrite w v).mem = s.mem := by
  simp [busWrite, h]

end State

end Sys2Proof.Machine
end

