-- ==== Sys2Proof/Laws/Operands.lean ====
section
/-! SUPPORT. The addressing-mode resolver and the operand cycles, field by field: what they change (PC, the trace, and for the
write class memory) and that they change nothing else. -/

namespace Sys2Proof.Machine

variable (s : State) (m : MemOperand) (op : Byte)

/-- Reads and fetches before it do not change where an operand is. -/
@[simp] theorem effectiveAddress_begin : effectiveAddress m (s.begin op) = effectiveAddress m s := by cases m <;> rfl
@[simp] theorem baseAddress_begin : baseAddress m (s.begin op) = baseAddress m s := by cases m <;> rfl
@[simp] theorem unfixedAddress_begin : unfixedAddress m (s.begin op) = unfixedAddress m s := by cases m <;> rfl
@[simp] theorem pageCrossed_begin : pageCrossed m (s.begin op) = pageCrossed m s := by cases m <;> rfl
@[simp] theorem index16_begin : index16 m (s.begin op) = index16 m s := by cases m <;> rfl

/-- A mode without a 16-bit index never reports a crossing (R125). -/
theorem pageCrossed_of_not_indexed {m : MemOperand} {s : State} (h : index16 m s = none) : pageCrossed m s = false := by
  cases m <;> simp_all [pageCrossed, effectiveAddress, index16]

@[simp] theorem resolve_st : (resolve m s).st = addressCycles m s := rfl
@[simp] theorem resolve_base : (resolve m s).base = baseAddress m s := rfl
@[simp] theorem resolve_ea : (resolve m s).ea = effectiveAddress m s := rfl
@[simp] theorem resolve_unfixed : (resolve m s).unfixed = unfixedAddress m s := rfl
@[simp] theorem resolve_crossed : (resolve m s).crossed = pageCrossed m s := rfl
@[simp] theorem resolve_fixup : (resolve m s).fixup = (index16 m s).isSome := rfl

@[simp] theorem addressCycles_a : (addressCycles m s).a = s.a := by cases m <;> rfl
@[simp] theorem addressCycles_x : (addressCycles m s).x = s.x := by cases m <;> rfl
@[simp] theorem addressCycles_y : (addressCycles m s).y = s.y := by cases m <;> rfl
@[simp] theorem addressCycles_sp : (addressCycles m s).sp = s.sp := by cases m <;> rfl
@[simp] theorem addressCycles_flags : (addressCycles m s).flags = s.flags := by cases m <;> rfl
@[simp] theorem addressCycles_halted : (addressCycles m s).halted = s.halted := by cases m <;> rfl
@[simp] theorem addressCycles_nmiPrev : (addressCycles m s).nmiPrev = s.nmiPrev := by cases m <;> rfl
@[simp] theorem addressCycles_nmiPending : (addressCycles m s).nmiPending = s.nmiPending := by cases m <;> rfl
@[simp] theorem addressCycles_iPoll : (addressCycles m s).iPoll = s.iPoll := by cases m <;> rfl
@[simp] theorem addressCycles_pollOk : (addressCycles m s).pollOk = s.pollOk := by cases m <;> rfl
@[simp] theorem addressCycles_mem : (addressCycles m s).mem = s.mem := by cases m <;> rfl
@[simp] theorem addressCycles_readOnly : (addressCycles m s).readOnly = s.readOnly := by cases m <;> rfl
@[simp] theorem addressCycles_config : (addressCycles m s).config = s.config := by cases m <;> rfl
@[simp] theorem addressCycles_irqLine : (addressCycles m s).irqLine = s.irqLine := by cases m <;> rfl
@[simp] theorem addressCycles_nmiLine : (addressCycles m s).nmiLine = s.nmiLine := by cases m <;> rfl
@[simp] theorem addressCycles_host : (addressCycles m s).host = s.host := by cases m <;> rfl
@[simp] theorem addressCycles_outcome : (addressCycles m s).outcome = s.outcome := by cases m <;> rfl
@[simp] theorem addressCycles_event : (addressCycles m s).event = s.event := by cases m <;> rfl
@[simp] theorem addressCycles_cycles : (addressCycles m s).cycles = s.cycles := by cases m <;> rfl
@[simp] theorem addressCycles_peek (w : Word) : (addressCycles m s).peek w = s.peek w := by cases m <;> rfl
@[simp] theorem addressCycles_writable (w : Word) : (addressCycles m s).writable w = s.writable w := by cases m <;> rfl
@[simp] theorem addressCycles_busWrite (w : Word) (v : Byte) : (addressCycles m s).busWrite w v = s.busWrite w v := by
  cases m <;> rfl
/-- PC advances past the operand bytes (R110). -/
theorem addressCycles_pc : (addressCycles m s).pc = s.pc + BitVec.ofNat 16 m.mode.operandBytes := by
  cases m <;> simp [addressCycles, MemOperand.mode, Mode.operandBytes, State.pointerCycles, BitVec.add_assoc]
/-- The bus cycles of the address part: the operand bytes, then the mode's reads (R117 to R122). -/
theorem addressCycles_trace :
    (addressCycles m s).trace = s.trace ++ streamReads s.pc m.bytes ++ s.addressReads m := by
  cases m <;> simp [addressCycles, MemOperand.bytes, streamReads, State.addressReads, State.pointerCycles, State.rd]

@[simp] theorem readOperand_a : (resolve m s).readOperand.2.a = s.a := by
  unfold Resolved.readOperand; split <;> simp
@[simp] theorem readOperand_x : (resolve m s).readOperand.2.x = s.x := by
  unfold Resolved.readOperand; split <;> simp
@[simp] theorem readOperand_y : (resolve m s).readOperand.2.y = s.y := by
  unfold Resolved.readOperand; split <;> simp
@[simp] theorem readOperand_sp : (resolve m s).readOperand.2.sp = s.sp := by
  unfold Resolved.readOperand; split <;> simp
@[simp] theorem readOperand_flags : (resolve m s).readOperand.2.flags = s.flags := by
  unfold Resolved.readOperand; split <;> simp
@[simp] theorem readOperand_halted : (resolve m s).readOperand.2.halted = s.halted := by
  unfold Resolved.readOperand; split <;> simp
@[simp] theorem readOperand_nmiPrev : (resolve m s).readOperand.2.nmiPrev = s.nmiPrev := by
  unfold Resolved.readOperand; split <;> simp
@[simp] theorem readOperand_nmiPending : (resolve m s).readOperand.2.nmiPending = s.nmiPending := by
  unfold Resolved.readOperand; split <;> simp
@[simp] theorem readOperand_iPoll : (resolve m s).readOperand.2.iPoll = s.iPoll := by
  unfold Resolved.readOperand; split <;> simp
@[simp] theorem readOperand_pollOk : (resolve m s).readOperand.2.pollOk = s.pollOk := by
  unfold Resolved.readOperand; split <;> simp
@[simp] theorem readOperand_mem : (resolve m s).readOperand.2.mem = s.mem := by
  unfold Resolved.readOperand; split <;> simp
@[simp] theorem readOperand_readOnly : (resolve m s).readOperand.2.readOnly = s.readOnly := by
  unfold Resolved.readOperand; split <;> simp
@[simp] theorem readOperand_config : (resolve m s).readOperand.2.config = s.config := by
  unfold Resolved.readOperand; split <;> simp
@[simp] theorem readOperand_irqLine : (resolve m s).readOperand.2.irqLine = s.irqLine := by
  unfold Resolved.readOperand; split <;> simp
@[simp] theorem readOperand_nmiLine : (resolve m s).readOperand.2.nmiLine = s.nmiLine := by
  unfold Resolved.readOperand; split <;> simp
@[simp] theorem readOperand_host : (resolve m s).readOperand.2.host = s.host := by
  unfold Resolved.readOperand; split <;> simp
@[simp] theorem readOperand_outcome : (resolve m s).readOperand.2.outcome = s.outcome := by
  unfold Resolved.readOperand; split <;> simp
@[simp] theorem readOperand_event : (resolve m s).readOperand.2.event = s.event := by
  unfold Resolved.readOperand; split <;> simp
@[simp] theorem readOperand_cycles : (resolve m s).readOperand.2.cycles = s.cycles := by
  unfold Resolved.readOperand; split <;> simp
@[simp] theorem readOperand_peek (w : Word) : (resolve m s).readOperand.2.peek w = s.peek w := by
  unfold Resolved.readOperand; split <;> simp
/-- The operand of the read class is the byte at the effective address (R112). -/
@[simp] theorem readOperand_value : (resolve m s).readOperand.1 = s.peek (effectiveAddress m s) := by
  unfold Resolved.readOperand; split <;> simp
@[simp] theorem readOperand_pc : (resolve m s).readOperand.2.pc = s.pc + BitVec.ofNat 16 m.mode.operandBytes := by
  unfold Resolved.readOperand; split <;> simp [addressCycles_pc]
/-- The bus cycles of the read class (R120, R122): the uncorrected address first when the page is crossed. -/
theorem readOperand_trace :
    (resolve m s).readOperand.2.trace = s.trace ++ streamReads s.pc m.bytes ++ s.addressReads m ++
      (if pageCrossed m s then [s.rd (unfixedAddress m s)] else []) ++ [s.rd (effectiveAddress m s)] := by
  unfold Resolved.readOperand; split <;> simp_all [addressCycles_trace, State.rd]

@[simp] theorem fixupRead_a : (resolve m s).fixupRead.a = s.a := by
  unfold Resolved.fixupRead; split <;> simp
@[simp] theorem fixupRead_x : (resolve m s).fixupRead.x = s.x := by
  unfold Resolved.fixupRead; split <;> simp
@[simp] theorem fixupRead_y : (resolve m s).fixupRead.y = s.y := by
  unfold Resolved.fixupRead; split <;> simp
@[simp] theorem fixupRead_sp : (resolve m s).fixupRead.sp = s.sp := by
  unfold Resolved.fixupRead; split <;> simp
@[simp] theorem fixupRead_flags : (resolve m s).fixupRead.flags = s.flags := by
  unfold Resolved.fixupRead; split <;> simp
@[simp] theorem fixupRead_halted : (resolve m s).fixupRead.halted = s.halted := by
  unfold Resolved.fixupRead; split <;> simp
@[simp] theorem fixupRead_nmiPrev : (resolve m s).fixupRead.nmiPrev = s.nmiPrev := by
  unfold Resolved.fixupRead; split <;> simp
@[simp] theorem fixupRead_nmiPending : (resolve m s).fixupRead.nmiPending = s.nmiPending := by
  unfold Resolved.fixupRead; split <;> simp
@[simp] theorem fixupRead_iPoll : (resolve m s).fixupRead.iPoll = s.iPoll := by
  unfold Resolved.fixupRead; split <;> simp
@[simp] theorem fixupRead_pollOk : (resolve m s).fixupRead.pollOk = s.pollOk := by
  unfold Resolved.fixupRead; split <;> simp
@[simp] theorem fixupRead_mem : (resolve m s).fixupRead.mem = s.mem := by
  unfold Resolved.fixupRead; split <;> simp
@[simp] theorem fixupRead_readOnly : (resolve m s).fixupRead.readOnly = s.readOnly := by
  unfold Resolved.fixupRead; split <;> simp
@[simp] theorem fixupRead_config : (resolve m s).fixupRead.config = s.config := by
  unfold Resolved.fixupRead; split <;> simp
@[simp] theorem fixupRead_irqLine : (resolve m s).fixupRead.irqLine = s.irqLine := by
  unfold Resolved.fixupRead; split <;> simp
@[simp] theorem fixupRead_nmiLine : (resolve m s).fixupRead.nmiLine = s.nmiLine := by
  unfold Resolved.fixupRead; split <;> simp
@[simp] theorem fixupRead_host : (resolve m s).fixupRead.host = s.host := by
  unfold Resolved.fixupRead; split <;> simp
@[simp] theorem fixupRead_outcome : (resolve m s).fixupRead.outcome = s.outcome := by
  unfold Resolved.fixupRead; split <;> simp
@[simp] theorem fixupRead_event : (resolve m s).fixupRead.event = s.event := by
  unfold Resolved.fixupRead; split <;> simp
@[simp] theorem fixupRead_cycles : (resolve m s).fixupRead.cycles = s.cycles := by
  unfold Resolved.fixupRead; split <;> simp
@[simp] theorem fixupRead_peek (w : Word) : (resolve m s).fixupRead.peek w = s.peek w := by
  unfold Resolved.fixupRead; split <;> simp
@[simp] theorem fixupRead_writable (w : Word) : (resolve m s).fixupRead.writable w = s.writable w := by
  unfold Resolved.fixupRead; split <;> simp
@[simp] theorem fixupRead_busWrite (w : Word) (v : Byte) : (resolve m s).fixupRead.busWrite w v = s.busWrite w v := by
  unfold Resolved.fixupRead; split <;> simp
@[simp] theorem fixupRead_pc : (resolve m s).fixupRead.pc = s.pc + BitVec.ofNat 16 m.mode.operandBytes := by
  unfold Resolved.fixupRead; split <;> simp [addressCycles_pc]
/-- The bus cycles of the write and read-modify-write classes before the operand (R120, R122). -/
theorem fixupRead_trace :
    (resolve m s).fixupRead.trace =
      s.trace ++ streamReads s.pc m.bytes ++ s.addressReads m ++ s.fixupReads m := by
  unfold Resolved.fixupRead State.fixupReads; split <;> simp_all [addressCycles_trace, State.rd]

@[simp] theorem writeOperand_eq (v : Byte) :
    (resolve m s).writeOperand v = (resolve m s).fixupRead.memWrite (effectiveAddress m s) v := rfl

/-- The read-modify-write class in terms of its parts (R112): `f` gets the byte at the effective address and a state in
which it has been written back. -/
theorem modifyOperand_eq (f : Byte → State → Byte × State) :
    (resolve m s).modifyOperand f =
      (let v := s.peek (effectiveAddress m s)
       let t := ((resolve m s).fixupRead.readCycle (effectiveAddress m s)).memWrite (effectiveAddress m s) v
       (f v t).2.memWrite (effectiveAddress m s) (f v t).1) := by
  simp [Resolved.modifyOperand]

end Sys2Proof.Machine
end

