-- ==== Sys2Proof/Laws/Ops.lean ====
section
/-! SUPPORT. What each shared operation of Machine/Ops.lean does, said once: the stack page, the vector jump, taking an
exception, the return from one, the interrupt entry and the reset sequence. -/

namespace Sys2Proof.Machine

/-! ## The stack page (20_memory.md R69) -/

theorem stackAddr_toNat (sp : Byte) : (stackAddr sp).toNat = 256 + sp.toNat := by
  have h : stackAddr sp = 0x0100#16 + zext16 sp := by
    unfold stackAddr zext16
    rw [BitVec.add_eq_or_of_and_eq_zero]
    ext i hi
    interval_cases i <;> simp
  rw [h]
  simp [zext16, BitVec.toNat_add]
  omega

@[simp] theorem stackAddr_inj {a b : Byte} : stackAddr a = stackAddr b ↔ a = b := by
  constructor
  · intro h
    have := congrArg BitVec.toNat h
    rw [stackAddr_toNat, stackAddr_toNat] at this
    exact BitVec.eq_of_toNat_eq (by omega)
  · rintro rfl; rfl

/-- An address from 0x0200 on is outside the stack page. -/
theorem ne_stackAddr {w : Word} (h : 0x0200 ≤ w.toNat) (sp : Byte) : w ≠ stackAddr sp := by
  intro he
  have := stackAddr_toNat sp
  rw [← he] at this
  omega

namespace State

variable (s : State) (vec : Word) (b : Bool)

/-! ## The vector jump (20_memory.md R63, R70) -/

/-- The state after the two vector reads: only PC and the trace change. -/
theorem jumpVector_eq : s.jumpVector vec =
    ((s.readCycle vec).readCycle (vec + 1)).setPc (wordOf (s.peek (vec + 1)) (s.peek vec)) := rfl

/-! ## Taking an exception -/

/-- The state after the three pushes of an exception, before I is set. -/
def afterPushes : State :=
  ((s.push (hiByte s.pc)).push (loByte s.pc)).push (s.flags.pread b)

theorem takeException_eq : s.takeException b vec =
    (((s.afterPushes b).setFlags { s.flags with i := true }).jumpVector vec).setPoll false true := rfl

@[simp] theorem takeException_a : (s.takeException b vec).a = s.a := by
  simp [takeException_eq, jumpVector_eq, afterPushes]
@[simp] theorem takeException_x : (s.takeException b vec).x = s.x := by
  simp [takeException_eq, jumpVector_eq, afterPushes]
@[simp] theorem takeException_y : (s.takeException b vec).y = s.y := by
  simp [takeException_eq, jumpVector_eq, afterPushes]
@[simp] theorem takeException_flags : (s.takeException b vec).flags = { s.flags with i := true } := by
  simp [takeException_eq, jumpVector_eq, afterPushes]
@[simp] theorem takeException_halted : (s.takeException b vec).halted = s.halted := by
  simp [takeException_eq, jumpVector_eq, afterPushes]
@[simp] theorem takeException_nmiPrev : (s.takeException b vec).nmiPrev = s.nmiPrev := by
  simp [takeException_eq, jumpVector_eq, afterPushes]
@[simp] theorem takeException_nmiPending : (s.takeException b vec).nmiPending = s.nmiPending := by
  simp [takeException_eq, jumpVector_eq, afterPushes]
@[simp] theorem takeException_iPoll : (s.takeException b vec).iPoll = true := by
  simp [takeException_eq, jumpVector_eq, afterPushes]
@[simp] theorem takeException_pollOk : (s.takeException b vec).pollOk = false := by
  simp [takeException_eq, jumpVector_eq, afterPushes]
@[simp] theorem takeException_readOnly : (s.takeException b vec).readOnly = s.readOnly := by
  simp [takeException_eq, jumpVector_eq, afterPushes]
@[simp] theorem takeException_config : (s.takeException b vec).config = s.config := by
  simp [takeException_eq, jumpVector_eq, afterPushes]
@[simp] theorem takeException_irqLine : (s.takeException b vec).irqLine = s.irqLine := by
  simp [takeException_eq, jumpVector_eq, afterPushes]
@[simp] theorem takeException_nmiLine : (s.takeException b vec).nmiLine = s.nmiLine := by
  simp [takeException_eq, jumpVector_eq, afterPushes]
@[simp] theorem takeException_host : (s.takeException b vec).host = s.host := by
  simp [takeException_eq, jumpVector_eq, afterPushes]
@[simp] theorem takeException_outcome : (s.takeException b vec).outcome = s.outcome := by
  simp [takeException_eq, jumpVector_eq, afterPushes]
@[simp] theorem takeException_event : (s.takeException b vec).event = s.event := by
  simp [takeException_eq, jumpVector_eq, afterPushes]
@[simp] theorem takeException_cycles : (s.takeException b vec).cycles = s.cycles := by
  simp [takeException_eq, jumpVector_eq, afterPushes]

/-- SP drops by 3 (60_exceptions.md R412). -/
@[simp] theorem takeException_sp : (s.takeException b vec).sp = s.sp - 3 := by
  simp [takeException_eq, jumpVector_eq, afterPushes, BitVec.sub_sub]

variable {s}

theorem afterPushes_wf (h : s.mem.wf = true) : (s.afterPushes b).mem.wf = true :=
  push_wf (push_wf (push_wf h _) _) _

/-- Every byte after the three pushes: PC high, PC low, P at SP, SP - 1, SP - 2 where the bus accepts the writes. -/
theorem afterPushes_peek (h : s.mem.wf = true) (a : Word) : (s.afterPushes b).peek a =
    if a = stackAddr (s.sp - 2) ∧ s.writable a = true then s.flags.pread b
    else if a = stackAddr (s.sp - 1) ∧ s.writable a = true then loByte s.pc
    else if a = stackAddr s.sp ∧ s.writable a = true then hiByte s.pc
    else s.peek a := by
  unfold afterPushes
  rw [push_peek (push_wf (push_wf h _) _), push_peek (push_wf h _), push_peek h]
  simp [BitVec.sub_sub]
  grind

/-- The pushes do not reach an address from 0x0200 on. -/
theorem afterPushes_far (h : s.mem.wf = true) {a : Word} (ha : 0x0200 ≤ a.toNat) :
    (s.afterPushes b).peek a = s.peek a := by
  simp [afterPushes_peek b h, ne_stackAddr ha]

theorem takeException_wf (h : s.mem.wf = true) : (s.takeException b vec).mem.wf = true := afterPushes_wf b h

theorem takeException_peek (a : Word) :
    (s.takeException b vec).peek a = (s.afterPushes b).peek a := rfl

/-- PC is the vector word, read after the pushes, which do not reach it (60_exceptions.md R412, R413). -/
theorem takeException_pc (h : s.mem.wf = true) (h₁ : 0x0200 ≤ vec.toNat) (h₂ : 0x0200 ≤ (vec + 1).toNat) :
    (s.takeException b vec).pc = wordOf (s.peek (vec + 1)) (s.peek vec) := by
  rw [takeException_eq, jumpVector_eq]
  have e₁ := afterPushes_far b h h₁
  have e₂ := afterPushes_far b h h₂
  simp_all

/-- The five bus cycles of an exception after its first two (60_exceptions.md R412, cycles 3 to 7). -/
theorem takeException_trace (h : s.mem.wf = true) (h₁ : 0x0200 ≤ vec.toNat) (h₂ : 0x0200 ≤ (vec + 1).toNat) :
    (s.takeException b vec).trace = s.trace ++
      [wr (stackAddr s.sp) (hiByte s.pc), wr (stackAddr (s.sp - 1)) (loByte s.pc),
       wr (stackAddr (s.sp - 2)) (s.flags.pread b), s.rd vec, s.rd (vec + 1)] := by
  rw [takeException_eq, jumpVector_eq]
  have e₁ := afterPushes_far b h h₁
  have e₂ := afterPushes_far b h h₂
  have e₃ : (s.afterPushes b).trace = s.trace ++ [wr (stackAddr s.sp) (hiByte s.pc),
      wr (stackAddr (s.sp - 1)) (loByte s.pc), wr (stackAddr (s.sp - 2)) (s.flags.pread b)] := by
    simp [afterPushes, BitVec.sub_sub, wr]
  simp_all [rd]

@[simp] theorem takeException_platform : (s.takeException b vec).platform = s.platform := by simp [platform]

variable (s)

/-! ## The return from an exception (44_control.md R264) -/

/-- RTI's three pulls: P, PC low, PC high. -/
theorem returnFromException_eq : s.returnFromException =
    (((((s.readCycle (stackAddr (s.sp + 1))).readCycle (stackAddr (s.sp + 2))).readCycle
      (stackAddr (s.sp + 3))).setSp (s.sp + 3)).setFlags (Flags.pwrite (s.peek (stackAddr (s.sp + 1))))).setPc
      (wordOf (s.peek (stackAddr (s.sp + 3))) (s.peek (stackAddr (s.sp + 2)))) := by
  have h1 : s.sp + 1 + 1 = s.sp + 2 := by rw [BitVec.add_assoc]; rfl
  have h2 : s.sp + 2 + 1 = s.sp + 3 := by rw [BitVec.add_assoc]; rfl
  rw [← h2, ← h1]
  rfl

/-! ## The reset sequence (70_reset_and_hazards.md R451) -/

theorem takeReset_eq : s.takeReset =
    (((((((((s.clearHaltAndNmi.clearTrace.readCycle s.pc).readCycle s.pc).readCycle (stackAddr s.sp)).readCycle
      (stackAddr (s.sp - 1))).readCycle (stackAddr (s.sp - 2))).setSp (s.sp - 3)).setFlags
      { s.flags with i := true }).jumpVector 0xFFFC#16).setPoll false true).report .ok .reset 7 := by
  have h1 : s.sp - 1 - 1 = s.sp - 2 := by rw [BitVec.sub_sub]; rfl
  have h2 : s.sp - 2 - 1 = s.sp - 3 := by rw [BitVec.sub_sub]; rfl
  rw [← h2, ← h1]
  rfl

@[simp] theorem takeReset_a : s.takeReset.a = s.a := by simp [takeReset_eq, jumpVector_eq]
@[simp] theorem takeReset_x : s.takeReset.x = s.x := by simp [takeReset_eq, jumpVector_eq]
@[simp] theorem takeReset_y : s.takeReset.y = s.y := by simp [takeReset_eq, jumpVector_eq]
@[simp] theorem takeReset_sp : s.takeReset.sp = s.sp - 3 := by simp [takeReset_eq, jumpVector_eq]
@[simp] theorem takeReset_pc : s.takeReset.pc = wordOf (s.peek 0xFFFD#16) (s.peek 0xFFFC#16) := by
  simp [takeReset_eq, jumpVector_eq]
@[simp] theorem takeReset_flags : s.takeReset.flags = { s.flags with i := true } := by simp [takeReset_eq, jumpVector_eq]
@[simp] theorem takeReset_hidden : s.takeReset.hidden =
    { halted := false, nmiPrev := s.nmiPrev, nmiPending := false, iPoll := true, pollOk := false } := by
  simp [takeReset_eq, jumpVector_eq, hidden]
@[simp] theorem takeReset_platform : s.takeReset.platform = s.platform := by
  simp [takeReset_eq, jumpVector_eq, platform]
@[simp] theorem takeReset_mem : s.takeReset.mem = s.mem := by simp [takeReset_eq, jumpVector_eq]
@[simp] theorem takeReset_peek (a : Word) : s.takeReset.peek a = s.peek a := by simp [takeReset_eq, jumpVector_eq]
@[simp] theorem takeReset_outcome : s.takeReset.outcome = .ok := by simp [takeReset_eq, jumpVector_eq]
@[simp] theorem takeReset_event : s.takeReset.event = .reset := by simp [takeReset_eq, jumpVector_eq]
@[simp] theorem takeReset_cycles : s.takeReset.cycles = 7 := by simp [takeReset_eq, jumpVector_eq]
/-- The seven reads of a reset (R451). -/
theorem takeReset_trace : s.takeReset.trace =
    [s.rd s.pc, s.rd s.pc, s.rd (stackAddr s.sp), s.rd (stackAddr (s.sp - 1)), s.rd (stackAddr (s.sp - 2)),
     s.rd 0xFFFC#16, s.rd 0xFFFD#16] := by
  simp [takeReset_eq, jumpVector_eq, rd]

/-! ## The decimal guard (42_arith_logic.md R183) -/

theorem decimalGuard_accepts {s : State} {k : Result State} (h : s.config.decimalMode = .nmos ∨ s.flags.d = false) :
    s.decimalGuard k = k := by
  unfold decimalGuard
  rcases h with h | h <;> simp [h]

theorem decimalGuard_refuses {s : State} {k : Result State} (h : s.config.decimalMode = .reject) (hd : s.flags.d = true) :
    s.decimalGuard k = .refused .decimalUnsupported := by
  simp [decimalGuard, h, hd]

end State

end Sys2Proof.Machine
end

