-- ==== Sys2Proof/Laws/Boundary.lean ====
section
/-! SUPPORT. What a step is at each kind of boundary, and that every step is one of them (spec 10_state.md R42, 60_exceptions.md
R410): the one place where the step is taken apart. -/

namespace Sys2Proof.Machine

/-- `State.reset` is the power-on reset of 70_reset_and_hazards.md R453, from the draws of log 3 and an empty memory. -/
theorem reset_eq_powerUp : State.reset = powerUp PowerOn.zeros [] [] Config.decided := by decide

/-- Every step has a host call: a reset, or the levels of this boundary. -/
theorem hostCall_cases (s : State) :
    (∃ queue, s.host = .reset :: queue) ∨ ∃ irq nmi queue, s.Inputs irq nmi queue := by
  rcases h : s.host with _ | ⟨_ | ⟨irq, nmi⟩, q⟩
  · exact .inr ⟨s.irqLine, s.nmiLine, [], .inr ⟨h, rfl, rfl, rfl⟩⟩
  · exact .inl ⟨q, rfl⟩
  · exact .inr ⟨irq, nmi, q, .inl h⟩

/-- The state after the NMI edge detection of a boundary with these inputs. -/
def State.latched (s : State) (irq nmi : Bool) (queue : List HostEvent) : State :=
  (s.withInputs irq nmi queue).latchNmi

/-- Whether an NMI is pending at a boundary with the level `nmi` (R408). -/
def State.nmiDue (s : State) (nmi : Bool) : Bool := s.nmiPending || (nmi && !s.nmiPrev)

variable {s : State} {irq nmi : Bool} {queue : List HostEvent}

theorem takeHostCall_of_inputs (h : s.Inputs irq nmi queue) : s.takeHostCall = s.withInputs irq nmi queue := by
  rcases h with h | ⟨h, rfl, rfl, rfl⟩
  · simp [State.takeHostCall, h, State.withInputs]
  · simp only [State.takeHostCall, h, State.withInputs]
    cases s; simp_all

theorem resetRequested_of_inputs (h : s.Inputs irq nmi queue) : s.resetRequested = false := by
  rcases h with h | ⟨h, -⟩ <;> simp [State.resetRequested, h]

theorem step_reset (h : s.host = .reset :: queue) : step s = .next ({ s with host := queue } : State).takeReset := by
  simp [step, State.boundary, State.resetRequested, State.takeHostCall, h]

/-- The choice of R42, with the inputs named. -/
theorem boundary_of_inputs (h : s.Inputs irq nmi queue) : s.boundary =
    if s.halted then (.halted, s.withInputs irq nmi queue)
    else if s.pollOk && s.nmiDue nmi then (.nmi, (s.latched irq nmi queue).acknowledgeNmi)
    else if s.pollOk && irq && !s.iPoll then (.irq, s.latched irq nmi queue)
    else (.instruction, s.latched irq nmi queue) := by
  simp only [State.boundary, resetRequested_of_inputs h, takeHostCall_of_inputs h]
  rfl

theorem step_halted (h : s.Inputs irq nmi queue) (hh : s.halted = true) :
    step s = .next (s.withInputs irq nmi queue).stayHalted := by
  simp [step, boundary_of_inputs h, hh]

theorem step_nmi (h : s.Inputs irq nmi queue) (hh : s.halted = false) (hp : s.pollOk = true)
    (hn : s.nmiDue nmi = true) :
    step s = .next ((s.latched irq nmi queue).acknowledgeNmi.interruptEntry .nmi vectorNmi) := by
  simp [step, boundary_of_inputs h, hh, hp, hn]

theorem step_irq (h : s.Inputs irq nmi queue) (hh : s.halted = false) (hp : s.pollOk = true)
    (hn : s.nmiDue nmi = false) (hi : irq = true) (hm : s.iPoll = false) :
    step s = .next ((s.latched irq nmi queue).interruptEntry .irq vectorIrq) := by
  simp [step, boundary_of_inputs h, hh, hp, hn, hi, hm]

/-- When no interrupt is taken, the step executes the instruction at PC. -/
theorem step_instruction (h : s.Inputs irq nmi queue) (hh : s.halted = false)
    (hq : s.pollOk = false ∨ s.nmiDue nmi = false ∧ (irq = false ∨ s.iPoll = true)) :
    step s = exec s.fetchInstr (s.latched irq nmi queue) := by
  have hb : s.boundary = (.instruction, s.latched irq nmi queue) := by
    rcases hq with hq | ⟨hn, hi | hi⟩ <;> simp [boundary_of_inputs h, *]
  simp only [step, hb]
  rfl

/-- Every step is one of the five. -/
theorem step_cases (s : State) :
    (∃ queue, s.host = .reset :: queue ∧ step s = .next ({ s with host := queue } : State).takeReset) ∨
    ∃ irq nmi queue, s.Inputs irq nmi queue ∧
      (s.halted = true ∧ step s = .next (s.withInputs irq nmi queue).stayHalted ∨
       s.halted = false ∧
        (s.pollOk = true ∧ s.nmiDue nmi = true ∧
          step s = .next ((s.latched irq nmi queue).acknowledgeNmi.interruptEntry .nmi vectorNmi) ∨
         s.pollOk = true ∧ s.nmiDue nmi = false ∧ irq = true ∧ s.iPoll = false ∧
          step s = .next ((s.latched irq nmi queue).interruptEntry .irq vectorIrq) ∨
         (s.pollOk = false ∨ s.nmiDue nmi = false ∧ (irq = false ∨ s.iPoll = true)) ∧
          step s = exec s.fetchInstr (s.latched irq nmi queue))) := by
  rcases hostCall_cases s with ⟨q, h⟩ | ⟨irq, nmi, q, h⟩
  · exact .inl ⟨q, h, step_reset h⟩
  refine .inr ⟨irq, nmi, q, h, ?_⟩
  rcases hh : s.halted
  · refine .inr ⟨rfl, ?_⟩
    rcases hp : s.pollOk
    · exact .inr (.inr ⟨.inl rfl, step_instruction h hh (.inl hp)⟩)
    rcases hn : s.nmiDue nmi
    · by_cases hi : irq = true ∧ s.iPoll = false
      · exact .inr (.inl ⟨rfl, rfl, hi.1, hi.2, step_irq h hh hp hn hi.1 hi.2⟩)
      · have : irq = false ∨ s.iPoll = true := by revert hi; cases irq <;> cases s.iPoll <;> simp
        exact .inr (.inr ⟨.inr ⟨rfl, this⟩, step_instruction h hh (.inr ⟨hn, this⟩)⟩)
    · exact .inl ⟨rfl, rfl, step_nmi h hh hp hn⟩
  · exact .inl ⟨rfl, step_halted h hh⟩

end Sys2Proof.Machine
end

