-- ==== Sys2Proof/Laws/Bus.lean ====
section
/-! SUPPORT. The bus's answer to a write does not reach the core (spec 20_memory.md R62, 60_exceptions.md R403): over a bus that
rejects other writes, an instruction, an interrupt entry and a reset leave the same state but for memory, and for what JSR
reads back from it (44_control.md R252). -/

namespace Sys2Proof.Machine

/-- `s` with other memory and other regions that reject writes. -/
def State.withBus (s : State) (mem : Memory) (readOnly : List Region) : State := { s with mem := mem, readOnly := readOnly }

/-- The answer with other memory and other regions in its next state. -/
def onBus (mem : Memory) (readOnly : List Region) : Result State → Result State
  | .next t => .next (t.withBus mem readOnly)
  | .fault f => .fault f
  | .refused r => .refused r

variable (s : State) (ro : List Region) (m : MemOperand) (op : Byte)

theorem addressCycles_withBus (t : State) : addressCycles m (t.withBus t.mem ro) = (addressCycles m t).withBus t.mem ro := by
  cases m <;> rfl

theorem addressCycles_keeps_mem (t : State) : (addressCycles m t).mem = t.mem := by cases m <;> rfl

/-- The resolver finds the same addresses on any bus, and its state differs in the regions only. -/
theorem resolve_withBus (t : State) :
    resolve m (t.withBus t.mem ro) =
      ⟨(addressCycles m t).withBus t.mem ro, baseAddress m t, effectiveAddress m t, unfixedAddress m t, pageCrossed m t,
        (index16 m t).isSome⟩ := by
  have hb : baseAddress m (t.withBus t.mem ro) = baseAddress m t := rfl
  have he : effectiveAddress m (t.withBus t.mem ro) = effectiveAddress m t := rfl
  have hu : unfixedAddress m (t.withBus t.mem ro) = unfixedAddress m t := rfl
  have hc : pageCrossed m (t.withBus t.mem ro) = pageCrossed m t := rfl
  have hx : index16 m (t.withBus t.mem ro) = index16 m t := rfl
  simp only [resolve, addressCycles_withBus, hb, he, hu, hc, hx]

theorem resolve_ea_withBus (t : State) : (resolve m (t.withBus t.mem ro)).ea = (resolve m t).ea := by
  rw [resolve_withBus]
  rfl

theorem resolve_base_withBus (t : State) : (resolve m (t.withBus t.mem ro)).base = (resolve m t).base := by
  rw [resolve_withBus]
  rfl

theorem resolve_crossed_withBus (t : State) : (resolve m (t.withBus t.mem ro)).crossed = (resolve m t).crossed := by
  rw [resolve_withBus]
  rfl

theorem fixup_withBus (c : Bool) (u : State) (a : Word) :
    (if c then (u.withBus u.mem ro).dummyRead a else u.withBus u.mem ro) =
      (if c then u.dummyRead a else u).withBus u.mem ro := by
  cases c <;> rfl

theorem fixup_keeps_mem (c : Bool) (u : State) (a : Word) : (if c then u.dummyRead a else u).mem = u.mem := by
  cases c <;> rfl

theorem memRead_withBus {u : State} {mem : Memory} (h : u.mem = mem) (a : Word) :
    (u.withBus mem ro).memRead a = ((u.memRead a).1, (u.memRead a).2.withBus mem ro) := by
  subst h
  rfl

theorem fixupRead_keeps_mem (t : State) : (resolve m t).fixupRead.mem = t.mem :=
  (fixup_keeps_mem _ _ _).trans (addressCycles_keeps_mem m t)

theorem readOperand_withBus (t : State) :
    (resolve m (t.withBus t.mem ro)).readOperand =
      ((resolve m t).readOperand.1, (resolve m t).readOperand.2.withBus t.mem ro) := by
  rw [resolve_withBus, ← addressCycles_keeps_mem m t]
  exact (congrArg (State.memRead · _) (fixup_withBus ro (pageCrossed m t) (addressCycles m t) _)).trans
    (memRead_withBus ro (fixup_keeps_mem (pageCrossed m t) (addressCycles m t) _) _)

theorem fixupRead_withBus (t : State) :
    (resolve m (t.withBus t.mem ro)).fixupRead = (resolve m t).fixupRead.withBus t.mem ro := by
  rw [resolve_withBus, ← addressCycles_keeps_mem m t]
  exact fixup_withBus ro (index16 m t).isSome (addressCycles m t) _

variable {f : Byte → State → State} {g : Byte → State → Byte × State}

theorem runImmediate_onBus (v : Byte) (hf : ∀ v t mem ro, f v (t.withBus mem ro) = (f v t).withBus mem ro) :
    runImmediate op v f (s.withBus s.mem ro) = onBus s.mem ro (runImmediate op v f s) := by
  have : ((s.withBus s.mem ro).begin op).fetchByte v = ((s.begin op).fetchByte v).withBus s.mem ro := rfl
  simp only [runImmediate, this, hf]
  rfl

theorem runRead_onBus (hf : ∀ v t mem ro, f v (t.withBus mem ro) = (f v t).withBus mem ro) :
    runRead op m f (s.withBus s.mem ro) = onBus s.mem ro (runRead op m f s) := by
  have hb : (s.withBus s.mem ro).begin op = (s.begin op).withBus (s.begin op).mem ro := rfl
  simp only [runRead, hb, readOperand_withBus, resolve_crossed_withBus, hf]
  rfl

/-- The double write of a read-modify-write (R112) from a state on either bus. -/
theorem modify_withBus (hg : ∀ v t mem ro, g v (t.withBus mem ro) = ((g v t).1, (g v t).2.withBus mem ro)) (t : State)
    (mem : Memory) (v : Byte) (a : Word) :
    ∃ mem', (g v ((t.withBus mem ro).memWrite a v)).2.memWrite a (g v ((t.withBus mem ro).memWrite a v)).1 =
      ((g v (t.memWrite a v)).2.memWrite a (g v (t.memWrite a v)).1).withBus mem' ro := by
  have hw : (t.withBus mem ro).memWrite a v = (t.memWrite a v).withBus ((t.withBus mem ro).busWrite a v).1 ro := rfl
  rw [hw, hg]
  exact ⟨_, rfl⟩

theorem runModify_onBus (hg : ∀ v t mem ro, g v (t.withBus mem ro) = ((g v t).1, (g v t).2.withBus mem ro)) :
    ∃ mem, runModify op m g (s.withBus s.mem ro) = onBus mem ro (runModify op m g s) := by
  have hb : (s.withBus s.mem ro).begin op = (s.begin op).withBus (s.begin op).mem ro := rfl
  simp only [runModify, Resolved.modifyOperand, hb, fixupRead_withBus, resolve_ea_withBus,
    resolve_crossed_withBus, memRead_withBus ro (fixupRead_keeps_mem m _)]
  obtain ⟨mem', h⟩ := modify_withBus ro hg ((resolve m (s.begin op)).fixupRead.memRead (resolve m (s.begin op)).ea).2
    (s.begin op).mem ((resolve m (s.begin op)).fixupRead.memRead (resolve m (s.begin op)).ea).1 (resolve m (s.begin op)).ea
  refine ⟨mem', ?_⟩
  rw [h]
  rfl

theorem runWrite_onBus {value : State → Byte} (hv : value (s.withBus s.mem ro) = value s) :
    ∃ mem, runWrite op m value (s.withBus s.mem ro) = onBus mem ro (runWrite op m value s) := by
  have hb : (s.withBus s.mem ro).begin op = (s.begin op).withBus (s.begin op).mem ro := rfl
  simp only [runWrite, hv, Resolved.writeOperand, hb, fixupRead_withBus, resolve_ea_withBus, resolve_crossed_withBus]
  exact ⟨_, rfl⟩

theorem runBranch_onBus (off : Byte) (cond : Flags → Bool) :
    runBranch op off cond (s.withBus s.mem ro) = onBus s.mem ro (runBranch op off cond s) := by
  have h1 : (((s.withBus s.mem ro).begin op).fetchByte off) = ((s.begin op).fetchByte off).withBus s.mem ro := rfl
  have h2 : (s.withBus s.mem ro).flags = s.flags := rfl
  have hm : ((s.begin op).fetchByte off).mem = s.mem := rfl
  simp only [runBranch, h1, h2]
  rw [← hm]
  generalize (s.begin op).fetchByte off = t
  have h3 : (t.withBus t.mem ro).pc = t.pc := rfl
  simp only [h3]
  generalize (hiByte (t.pc + sext16 off) != hiByte t.pc) = crossed
  cases cond s.flags <;> cases crossed <;> rfl

theorem runHighStore_onBus {src : State → Byte} {pre : State → State} (hs : src (s.withBus s.mem ro) = src s)
    (hp : ∀ t mem ro, pre (t.withBus mem ro) = (pre t).withBus mem ro) :
    ∃ mem, runHighStore op m src pre (s.withBus s.mem ro) = onBus mem ro (runHighStore op m src pre s) := by
  have hb : (s.withBus s.mem ro).begin op = (s.begin op).withBus (s.begin op).mem ro := rfl
  simp only [runHighStore, hs, hb, fixupRead_withBus, hp, resolve_ea_withBus, resolve_base_withBus, resolve_crossed_withBus]
  exact ⟨_, rfl⟩

theorem decimalGuard_onBus {k k' : Result State} (h : ∃ mem, k' = onBus mem ro k) :
    ∃ mem, (s.withBus s.mem ro).decimalGuard k' = onBus mem ro (s.decimalGuard k) := by
  obtain ⟨mem, rfl⟩ := h
  by_cases hd : s.config.decimalMode = .reject ∧ s.flags.d = true
  · have hd' : (s.withBus s.mem ro).config.decimalMode = .reject ∧ (s.withBus s.mem ro).flags.d = true := hd
    exact ⟨mem, by simp only [State.decimalGuard, if_pos hd, if_pos hd']; rfl⟩
  · have hd' : ¬((s.withBus s.mem ro).config.decimalMode = .reject ∧ (s.withBus s.mem ro).flags.d = true) := hd
    exact ⟨mem, by simp only [State.decimalGuard, if_neg hd, if_neg hd']⟩

seal runRead runWrite runModify runImmediate runBranch runHighStore State.decimalGuard in
theorem exec_onBus_of_ne_brk (i : Instr) (hj : i.operation ≠ .jsr) (hb : i.operation ≠ .brk) :
    ∃ mem, exec i (s.withBus s.mem ro) = onBus mem ro (exec i s) := by
  cases i
  all_goals first
    | exact (hj rfl).elim
    | exact (hb rfl).elim
    | exact ⟨_, runRead_onBus s ro _ _ (fun _ _ _ _ => rfl)⟩
    | exact runModify_onBus s ro _ _ (fun _ _ _ _ => rfl)
    | exact runWrite_onBus s ro _ _ rfl
    | exact ⟨_, runImmediate_onBus s ro _ _ (fun _ _ _ _ => rfl)⟩
    | exact ⟨_, runBranch_onBus s ro _ _ _⟩
    | exact runHighStore_onBus s ro _ _ rfl (fun _ _ _ => rfl)
    | exact decimalGuard_onBus s ro ⟨_, runRead_onBus s ro _ _ (fun _ _ _ _ => rfl)⟩
    | exact decimalGuard_onBus s ro ⟨_, runImmediate_onBus s ro _ _ (fun _ _ _ _ => rfl)⟩
    | exact decimalGuard_onBus s ro (runModify_onBus s ro _ _ (fun _ _ _ _ => rfl))
    | exact ⟨_, rfl⟩

/-- Taking an exception, for a vector outside the stack page: the vector is read as before the pushes on either bus. -/
theorem takeException_onBus (b : Bool) (vec : Word) (h : s.mem.wf = true) (h₁ : 0x0200 ≤ vec.toNat)
    (h₂ : 0x0200 ≤ (vec + 1).toNat) :
    ∃ mem, (s.withBus s.mem ro).takeException b vec = (s.takeException b vec).withBus mem ro := by
  have e₀ : (s.withBus s.mem ro).afterPushes b =
      (s.afterPushes b).withBus ((s.withBus s.mem ro).afterPushes b).mem ro := rfl
  have far : ∀ a : Word, 0x0200 ≤ a.toNat →
      ((s.afterPushes b).withBus ((s.withBus s.mem ro).afterPushes b).mem ro).peek a = (s.afterPushes b).peek a := by
    intro a ha
    rw [← e₀, State.afterPushes_far b h ha, State.afterPushes_far (s := s.withBus s.mem ro) b h ha]
    rfl
  refine ⟨((s.withBus s.mem ro).afterPushes b).mem, ?_⟩
  rw [State.takeException_eq, State.takeException_eq, State.jumpVector_eq, State.jumpVector_eq, e₀]
  simp only [State.readCycle, State.setFlags_peek, State.log_peek, far vec h₁, far (vec + 1) h₂]
  rfl

theorem interruptEntry_onBus (e : StepEvent) (vec : Word) (h : s.mem.wf = true) (h₁ : 0x0200 ≤ vec.toNat)
    (h₂ : 0x0200 ≤ (vec + 1).toNat) :
    ∃ mem, (s.withBus s.mem ro).interruptEntry e vec = (s.interruptEntry e vec).withBus mem ro := by
  obtain ⟨mem, hm⟩ := takeException_onBus ((s.clearTrace.dummyRead s.pc).dummyRead s.pc) ro false vec h h₁ h₂
  refine ⟨mem, ?_⟩
  have : (((s.withBus s.mem ro).clearTrace.dummyRead (s.withBus s.mem ro).pc).dummyRead (s.withBus s.mem ro).pc) =
    ((s.clearTrace.dummyRead s.pc).dummyRead s.pc).withBus s.mem ro := rfl
  simp only [State.interruptEntry, this]
  exact congrArg (State.report · .ok e 7) hm

/-! A reset, which writes nothing -/

theorem resetStackCycle_withBus {t : State} {mem : Memory} (h : t.mem = mem) :
    (t.withBus mem ro).resetStackCycle = t.resetStackCycle.withBus mem ro := by
  subst h
  rfl

theorem jumpVector_withBus {t : State} {mem : Memory} (h : t.mem = mem) (f : Flags) (vec : Word) :
    ((t.withBus mem ro).setFlags f).jumpVector vec = ((t.setFlags f).jumpVector vec).withBus mem ro := by
  subst h
  rfl

theorem takeReset_onBus : (s.withBus s.mem ro).takeReset = s.takeReset.withBus s.mem ro := by
  have e : ∀ t : State, t.takeReset =
      ((((((t.clearHaltAndNmi.clearTrace.dummyRead t.pc).dummyRead t.pc).resetStackCycle.resetStackCycle.resetStackCycle
        ).setFlags { t.flags with i := true }).jumpVector vectorReset).setPoll false true).report .ok .reset 7 :=
    fun _ => rfl
  have h : ((s.withBus s.mem ro).clearHaltAndNmi.clearTrace.dummyRead (s.withBus s.mem ro).pc).dummyRead
      (s.withBus s.mem ro).pc = ((s.clearHaltAndNmi.clearTrace.dummyRead s.pc).dummyRead s.pc).withBus s.mem ro := rfl
  have hm : ((s.clearHaltAndNmi.clearTrace.dummyRead s.pc).dummyRead s.pc).mem = s.mem := rfl
  rw [e, e, h]
  generalize (s.clearHaltAndNmi.clearTrace.dummyRead s.pc).dummyRead s.pc = t at hm ⊢
  rw [resetStackCycle_withBus ro hm, resetStackCycle_withBus (t := t.resetStackCycle) ro hm,
    resetStackCycle_withBus (t := t.resetStackCycle.resetStackCycle) ro hm,
    jumpVector_withBus (t := t.resetStackCycle.resetStackCycle.resetStackCycle) ro hm]
  rfl

theorem execBrk_onBus (h : s.mem.wf = true) : ∃ mem, exec .brk (s.withBus s.mem ro) = onBus mem ro (exec .brk s) := by
  obtain ⟨mem, hm⟩ := takeException_onBus (s.begin 0x00#8).fetchNext ro true vectorIrq h (by decide) (by decide)
  have := congrArg (fun t : State => (.next (t.finish 0x00#8 s.flags.i false 0) : Result State)) hm
  exact ⟨mem, this⟩

/-- JSR before its last cycle (44_control.md R252). -/
def afterCall (w : Word) : State :=
  let s₁ := (s.begin 0x20#8).fetchByte (loByte w)
  let s₂ := (s₁.dummyRead (stackAddr s₁.sp)).push (hiByte s₁.pc)
  s₂.push (loByte s₂.pc)

theorem execJsr_eq (w : Word) : exec (.jsr w) s = .next
    ((((afterCall s w).readCycle (afterCall s w).pc).setPc
      (wordOf ((afterCall s w).peek (afterCall s w).pc) (loByte w))).finish 0x20#8 s.flags.i false 0) := rfl

/-- JSR alone reads a byte back after its stores: PC and the last access may differ. -/
theorem execJsr_onBus (w : Word) : ∃ (t : State) (mem : Memory) (pc a : Word) (pre : List BusAccess) (v v' : Byte),
    exec (.jsr w) s = .next t ∧ t.trace = pre ++ [⟨.read, a, v⟩] ∧
      exec (.jsr w) (s.withBus s.mem ro) =
        .next { t.withBus mem ro with pc := pc, trace := pre ++ [⟨.read, a, v'⟩] } := by
  have h : afterCall (s.withBus s.mem ro) w =
      (afterCall s w).withBus (afterCall (s.withBus s.mem ro) w).mem ro := rfl
  refine ⟨_, (afterCall (s.withBus s.mem ro) w).mem,
    wordOf ((afterCall (s.withBus s.mem ro) w).peek (afterCall s w).pc) (loByte w), (afterCall s w).pc,
    (afterCall s w).trace, (afterCall s w).peek (afterCall s w).pc,
    (afterCall (s.withBus s.mem ro) w).peek (afterCall s w).pc, execJsr_eq s w, rfl, ?_⟩
  rw [execJsr_eq, h]
  rfl

/-- Every instruction but JSR, on another bus. -/
theorem exec_onBus (i : Instr) (h : s.mem.wf = true) (hj : i.operation ≠ .jsr) :
    ∃ mem, exec i (s.withBus s.mem ro) = onBus mem ro (exec i s) := by
  by_cases hb : i.operation = .brk
  · have : i = .brk := by cases i <;> first | rfl | cases hb
    exact this ▸ execBrk_onBus s ro h
  · exact exec_onBus_of_ne_brk s ro i hj hb

end Sys2Proof.Machine
end

