-- ==== Sys2Proof/Laws/Descriptors.lean ====
section
/-! SUPPORT. The descriptor of each opcode byte, evaluated (spec 30_encoding.md R95), so that no proof unfolds the map. -/

namespace Sys2Proof

@[simp] theorem descriptor_00 : descriptor 0x00#8 = cell .brk .implied 7 := rfl
@[simp] theorem descriptor_01 : descriptor 0x01#8 = cell .ora .indexedIndirectX 6 := rfl
@[simp] theorem descriptor_02 : descriptor 0x02#8 = cellJam := rfl
@[simp] theorem descriptor_03 : descriptor 0x03#8 = cell .slo .indexedIndirectX 8 := rfl
@[simp] theorem descriptor_04 : descriptor 0x04#8 = cell .nop .zeropage 3 := rfl
@[simp] theorem descriptor_05 : descriptor 0x05#8 = cell .ora .zeropage 3 := rfl
@[simp] theorem descriptor_06 : descriptor 0x06#8 = cell .asl .zeropage 5 := rfl
@[simp] theorem descriptor_07 : descriptor 0x07#8 = cell .slo .zeropage 5 := rfl
@[simp] theorem descriptor_08 : descriptor 0x08#8 = cell .php .implied 3 := rfl
@[simp] theorem descriptor_09 : descriptor 0x09#8 = cell .ora .immediate 2 := rfl
@[simp] theorem descriptor_0A : descriptor 0x0A#8 = cell .asl .accumulator 2 := rfl
@[simp] theorem descriptor_0B : descriptor 0x0B#8 = cell .anc .immediate 2 := rfl
@[simp] theorem descriptor_0C : descriptor 0x0C#8 = cell .nop .absolute 4 := rfl
@[simp] theorem descriptor_0D : descriptor 0x0D#8 = cell .ora .absolute 4 := rfl
@[simp] theorem descriptor_0E : descriptor 0x0E#8 = cell .asl .absolute 6 := rfl
@[simp] theorem descriptor_0F : descriptor 0x0F#8 = cell .slo .absolute 6 := rfl
@[simp] theorem descriptor_10 : descriptor 0x10#8 = cell .bpl .relative 2 := rfl
@[simp] theorem descriptor_11 : descriptor 0x11#8 = cellPlus .ora .indirectIndexedY 5 := rfl
@[simp] theorem descriptor_12 : descriptor 0x12#8 = cellJam := rfl
@[simp] theorem descriptor_13 : descriptor 0x13#8 = cell .slo .indirectIndexedY 8 := rfl
@[simp] theorem descriptor_14 : descriptor 0x14#8 = cell .nop .zeropageIndexedX 4 := rfl
@[simp] theorem descriptor_15 : descriptor 0x15#8 = cell .ora .zeropageIndexedX 4 := rfl
@[simp] theorem descriptor_16 : descriptor 0x16#8 = cell .asl .zeropageIndexedX 6 := rfl
@[simp] theorem descriptor_17 : descriptor 0x17#8 = cell .slo .zeropageIndexedX 6 := rfl
@[simp] theorem descriptor_18 : descriptor 0x18#8 = cell .clc .implied 2 := rfl
@[simp] theorem descriptor_19 : descriptor 0x19#8 = cellPlus .ora .absoluteIndexedY 4 := rfl
@[simp] theorem descriptor_1A : descriptor 0x1A#8 = cell .nop .implied 2 := rfl
@[simp] theorem descriptor_1B : descriptor 0x1B#8 = cell .slo .absoluteIndexedY 7 := rfl
@[simp] theorem descriptor_1C : descriptor 0x1C#8 = cellPlus .nop .absoluteIndexedX 4 := rfl
@[simp] theorem descriptor_1D : descriptor 0x1D#8 = cellPlus .ora .absoluteIndexedX 4 := rfl
@[simp] theorem descriptor_1E : descriptor 0x1E#8 = cell .asl .absoluteIndexedX 7 := rfl
@[simp] theorem descriptor_1F : descriptor 0x1F#8 = cell .slo .absoluteIndexedX 7 := rfl
@[simp] theorem descriptor_20 : descriptor 0x20#8 = cell .jsr .absolute 6 := rfl
@[simp] theorem descriptor_21 : descriptor 0x21#8 = cell .and .indexedIndirectX 6 := rfl
@[simp] theorem descriptor_22 : descriptor 0x22#8 = cellJam := rfl
@[simp] theorem descriptor_23 : descriptor 0x23#8 = cell .rla .indexedIndirectX 8 := rfl
@[simp] theorem descriptor_24 : descriptor 0x24#8 = cell .bit .zeropage 3 := rfl
@[simp] theorem descriptor_25 : descriptor 0x25#8 = cell .and .zeropage 3 := rfl
@[simp] theorem descriptor_26 : descriptor 0x26#8 = cell .rol .zeropage 5 := rfl
@[simp] theorem descriptor_27 : descriptor 0x27#8 = cell .rla .zeropage 5 := rfl
@[simp] theorem descriptor_28 : descriptor 0x28#8 = cell .plp .implied 4 := rfl
@[simp] theorem descriptor_29 : descriptor 0x29#8 = cell .and .immediate 2 := rfl
@[simp] theorem descriptor_2A : descriptor 0x2A#8 = cell .rol .accumulator 2 := rfl
@[simp] theorem descriptor_2B : descriptor 0x2B#8 = cell .anc .immediate 2 := rfl
@[simp] theorem descriptor_2C : descriptor 0x2C#8 = cell .bit .absolute 4 := rfl
@[simp] theorem descriptor_2D : descriptor 0x2D#8 = cell .and .absolute 4 := rfl
@[simp] theorem descriptor_2E : descriptor 0x2E#8 = cell .rol .absolute 6 := rfl
@[simp] theorem descriptor_2F : descriptor 0x2F#8 = cell .rla .absolute 6 := rfl
@[simp] theorem descriptor_30 : descriptor 0x30#8 = cell .bmi .relative 2 := rfl
@[simp] theorem descriptor_31 : descriptor 0x31#8 = cellPlus .and .indirectIndexedY 5 := rfl
@[simp] theorem descriptor_32 : descriptor 0x32#8 = cellJam := rfl
@[simp] theorem descriptor_33 : descriptor 0x33#8 = cell .rla .indirectIndexedY 8 := rfl
@[simp] theorem descriptor_34 : descriptor 0x34#8 = cell .nop .zeropageIndexedX 4 := rfl
@[simp] theorem descriptor_35 : descriptor 0x35#8 = cell .and .zeropageIndexedX 4 := rfl
@[simp] theorem descriptor_36 : descriptor 0x36#8 = cell .rol .zeropageIndexedX 6 := rfl
@[simp] theorem descriptor_37 : descriptor 0x37#8 = cell .rla .zeropageIndexedX 6 := rfl
@[simp] theorem descriptor_38 : descriptor 0x38#8 = cell .sec .implied 2 := rfl
@[simp] theorem descriptor_39 : descriptor 0x39#8 = cellPlus .and .absoluteIndexedY 4 := rfl
@[simp] theorem descriptor_3A : descriptor 0x3A#8 = cell .nop .implied 2 := rfl
@[simp] theorem descriptor_3B : descriptor 0x3B#8 = cell .rla .absoluteIndexedY 7 := rfl
@[simp] theorem descriptor_3C : descriptor 0x3C#8 = cellPlus .nop .absoluteIndexedX 4 := rfl
@[simp] theorem descriptor_3D : descriptor 0x3D#8 = cellPlus .and .absoluteIndexedX 4 := rfl
@[simp] theorem descriptor_3E : descriptor 0x3E#8 = cell .rol .absoluteIndexedX 7 := rfl
@[simp] theorem descriptor_3F : descriptor 0x3F#8 = cell .rla .absoluteIndexedX 7 := rfl
@[simp] theorem descriptor_40 : descriptor 0x40#8 = cell .rti .implied 6 := rfl
@[simp] theorem descriptor_41 : descriptor 0x41#8 = cell .eor .indexedIndirectX 6 := rfl
@[simp] theorem descriptor_42 : descriptor 0x42#8 = cellJam := rfl
@[simp] theorem descriptor_43 : descriptor 0x43#8 = cell .sre .indexedIndirectX 8 := rfl
@[simp] theorem descriptor_44 : descriptor 0x44#8 = cell .nop .zeropage 3 := rfl
@[simp] theorem descriptor_45 : descriptor 0x45#8 = cell .eor .zeropage 3 := rfl
@[simp] theorem descriptor_46 : descriptor 0x46#8 = cell .lsr .zeropage 5 := rfl
@[simp] theorem descriptor_47 : descriptor 0x47#8 = cell .sre .zeropage 5 := rfl
@[simp] theorem descriptor_48 : descriptor 0x48#8 = cell .pha .implied 3 := rfl
@[simp] theorem descriptor_49 : descriptor 0x49#8 = cell .eor .immediate 2 := rfl
@[simp] theorem descriptor_4A : descriptor 0x4A#8 = cell .lsr .accumulator 2 := rfl
@[simp] theorem descriptor_4B : descriptor 0x4B#8 = cell .alr .immediate 2 := rfl
@[simp] theorem descriptor_4C : descriptor 0x4C#8 = cell .jmp .absolute 3 := rfl
@[simp] theorem descriptor_4D : descriptor 0x4D#8 = cell .eor .absolute 4 := rfl
@[simp] theorem descriptor_4E : descriptor 0x4E#8 = cell .lsr .absolute 6 := rfl
@[simp] theorem descriptor_4F : descriptor 0x4F#8 = cell .sre .absolute 6 := rfl
@[simp] theorem descriptor_50 : descriptor 0x50#8 = cell .bvc .relative 2 := rfl
@[simp] theorem descriptor_51 : descriptor 0x51#8 = cellPlus .eor .indirectIndexedY 5 := rfl
@[simp] theorem descriptor_52 : descriptor 0x52#8 = cellJam := rfl
@[simp] theorem descriptor_53 : descriptor 0x53#8 = cell .sre .indirectIndexedY 8 := rfl
@[simp] theorem descriptor_54 : descriptor 0x54#8 = cell .nop .zeropageIndexedX 4 := rfl
@[simp] theorem descriptor_55 : descriptor 0x55#8 = cell .eor .zeropageIndexedX 4 := rfl
@[simp] theorem descriptor_56 : descriptor 0x56#8 = cell .lsr .zeropageIndexedX 6 := rfl
@[simp] theorem descriptor_57 : descriptor 0x57#8 = cell .sre .zeropageIndexedX 6 := rfl
@[simp] theorem descriptor_58 : descriptor 0x58#8 = cell .cli .implied 2 := rfl
@[simp] theorem descriptor_59 : descriptor 0x59#8 = cellPlus .eor .absoluteIndexedY 4 := rfl
@[simp] theorem descriptor_5A : descriptor 0x5A#8 = cell .nop .implied 2 := rfl
@[simp] theorem descriptor_5B : descriptor 0x5B#8 = cell .sre .absoluteIndexedY 7 := rfl
@[simp] theorem descriptor_5C : descriptor 0x5C#8 = cellPlus .nop .absoluteIndexedX 4 := rfl
@[simp] theorem descriptor_5D : descriptor 0x5D#8 = cellPlus .eor .absoluteIndexedX 4 := rfl
@[simp] theorem descriptor_5E : descriptor 0x5E#8 = cell .lsr .absoluteIndexedX 7 := rfl
@[simp] theorem descriptor_5F : descriptor 0x5F#8 = cell .sre .absoluteIndexedX 7 := rfl
@[simp] theorem descriptor_60 : descriptor 0x60#8 = cell .rts .implied 6 := rfl
@[simp] theorem descriptor_61 : descriptor 0x61#8 = cell .adc .indexedIndirectX 6 := rfl
@[simp] theorem descriptor_62 : descriptor 0x62#8 = cellJam := rfl
@[simp] theorem descriptor_63 : descriptor 0x63#8 = cell .rra .indexedIndirectX 8 := rfl
@[simp] theorem descriptor_64 : descriptor 0x64#8 = cell .nop .zeropage 3 := rfl
@[simp] theorem descriptor_65 : descriptor 0x65#8 = cell .adc .zeropage 3 := rfl
@[simp] theorem descriptor_66 : descriptor 0x66#8 = cell .ror .zeropage 5 := rfl
@[simp] theorem descriptor_67 : descriptor 0x67#8 = cell .rra .zeropage 5 := rfl
@[simp] theorem descriptor_68 : descriptor 0x68#8 = cell .pla .implied 4 := rfl
@[simp] theorem descriptor_69 : descriptor 0x69#8 = cell .adc .immediate 2 := rfl
@[simp] theorem descriptor_6A : descriptor 0x6A#8 = cell .ror .accumulator 2 := rfl
@[simp] theorem descriptor_6B : descriptor 0x6B#8 = cell .arr .immediate 2 := rfl
@[simp] theorem descriptor_6C : descriptor 0x6C#8 = cell .jmp .indirect 5 := rfl
@[simp] theorem descriptor_6D : descriptor 0x6D#8 = cell .adc .absolute 4 := rfl
@[simp] theorem descriptor_6E : descriptor 0x6E#8 = cell .ror .absolute 6 := rfl
@[simp] theorem descriptor_6F : descriptor 0x6F#8 = cell .rra .absolute 6 := rfl
@[simp] theorem descriptor_70 : descriptor 0x70#8 = cell .bvs .relative 2 := rfl
@[simp] theorem descriptor_71 : descriptor 0x71#8 = cellPlus .adc .indirectIndexedY 5 := rfl
@[simp] theorem descriptor_72 : descriptor 0x72#8 = cellJam := rfl
@[simp] theorem descriptor_73 : descriptor 0x73#8 = cell .rra .indirectIndexedY 8 := rfl
@[simp] theorem descriptor_74 : descriptor 0x74#8 = cell .nop .zeropageIndexedX 4 := rfl
@[simp] theorem descriptor_75 : descriptor 0x75#8 = cell .adc .zeropageIndexedX 4 := rfl
@[simp] theorem descriptor_76 : descriptor 0x76#8 = cell .ror .zeropageIndexedX 6 := rfl
@[simp] theorem descriptor_77 : descriptor 0x77#8 = cell .rra .zeropageIndexedX 6 := rfl
@[simp] theorem descriptor_78 : descriptor 0x78#8 = cell .sei .implied 2 := rfl
@[simp] theorem descriptor_79 : descriptor 0x79#8 = cellPlus .adc .absoluteIndexedY 4 := rfl
@[simp] theorem descriptor_7A : descriptor 0x7A#8 = cell .nop .implied 2 := rfl
@[simp] theorem descriptor_7B : descriptor 0x7B#8 = cell .rra .absoluteIndexedY 7 := rfl
@[simp] theorem descriptor_7C : descriptor 0x7C#8 = cellPlus .nop .absoluteIndexedX 4 := rfl
@[simp] theorem descriptor_7D : descriptor 0x7D#8 = cellPlus .adc .absoluteIndexedX 4 := rfl
@[simp] theorem descriptor_7E : descriptor 0x7E#8 = cell .ror .absoluteIndexedX 7 := rfl
@[simp] theorem descriptor_7F : descriptor 0x7F#8 = cell .rra .absoluteIndexedX 7 := rfl
@[simp] theorem descriptor_80 : descriptor 0x80#8 = cell .nop .immediate 2 := rfl
@[simp] theorem descriptor_81 : descriptor 0x81#8 = cell .sta .indexedIndirectX 6 := rfl
@[simp] theorem descriptor_82 : descriptor 0x82#8 = cell .nop .immediate 2 := rfl
@[simp] theorem descriptor_83 : descriptor 0x83#8 = cell .sax .indexedIndirectX 6 := rfl
@[simp] theorem descriptor_84 : descriptor 0x84#8 = cell .sty .zeropage 3 := rfl
@[simp] theorem descriptor_85 : descriptor 0x85#8 = cell .sta .zeropage 3 := rfl
@[simp] theorem descriptor_86 : descriptor 0x86#8 = cell .stx .zeropage 3 := rfl
@[simp] theorem descriptor_87 : descriptor 0x87#8 = cell .sax .zeropage 3 := rfl
@[simp] theorem descriptor_88 : descriptor 0x88#8 = cell .dey .implied 2 := rfl
@[simp] theorem descriptor_89 : descriptor 0x89#8 = cell .nop .immediate 2 := rfl
@[simp] theorem descriptor_8A : descriptor 0x8A#8 = cell .txa .implied 2 := rfl
@[simp] theorem descriptor_8B : descriptor 0x8B#8 = cell .xaa .immediate 2 := rfl
@[simp] theorem descriptor_8C : descriptor 0x8C#8 = cell .sty .absolute 4 := rfl
@[simp] theorem descriptor_8D : descriptor 0x8D#8 = cell .sta .absolute 4 := rfl
@[simp] theorem descriptor_8E : descriptor 0x8E#8 = cell .stx .absolute 4 := rfl
@[simp] theorem descriptor_8F : descriptor 0x8F#8 = cell .sax .absolute 4 := rfl
@[simp] theorem descriptor_90 : descriptor 0x90#8 = cell .bcc .relative 2 := rfl
@[simp] theorem descriptor_91 : descriptor 0x91#8 = cell .sta .indirectIndexedY 6 := rfl
@[simp] theorem descriptor_92 : descriptor 0x92#8 = cellJam := rfl
@[simp] theorem descriptor_93 : descriptor 0x93#8 = cell .ahx .indirectIndexedY 6 := rfl
@[simp] theorem descriptor_94 : descriptor 0x94#8 = cell .sty .zeropageIndexedX 4 := rfl
@[simp] theorem descriptor_95 : descriptor 0x95#8 = cell .sta .zeropageIndexedX 4 := rfl
@[simp] theorem descriptor_96 : descriptor 0x96#8 = cell .stx .zeropageIndexedY 4 := rfl
@[simp] theorem descriptor_97 : descriptor 0x97#8 = cell .sax .zeropageIndexedY 4 := rfl
@[simp] theorem descriptor_98 : descriptor 0x98#8 = cell .tya .implied 2 := rfl
@[simp] theorem descriptor_99 : descriptor 0x99#8 = cell .sta .absoluteIndexedY 5 := rfl
@[simp] theorem descriptor_9A : descriptor 0x9A#8 = cell .txs .implied 2 := rfl
@[simp] theorem descriptor_9B : descriptor 0x9B#8 = cell .tas .absoluteIndexedY 5 := rfl
@[simp] theorem descriptor_9C : descriptor 0x9C#8 = cell .shy .absoluteIndexedX 5 := rfl
@[simp] theorem descriptor_9D : descriptor 0x9D#8 = cell .sta .absoluteIndexedX 5 := rfl
@[simp] theorem descriptor_9E : descriptor 0x9E#8 = cell .shx .absoluteIndexedY 5 := rfl
@[simp] theorem descriptor_9F : descriptor 0x9F#8 = cell .ahx .absoluteIndexedY 5 := rfl
@[simp] theorem descriptor_A0 : descriptor 0xA0#8 = cell .ldy .immediate 2 := rfl
@[simp] theorem descriptor_A1 : descriptor 0xA1#8 = cell .lda .indexedIndirectX 6 := rfl
@[simp] theorem descriptor_A2 : descriptor 0xA2#8 = cell .ldx .immediate 2 := rfl
@[simp] theorem descriptor_A3 : descriptor 0xA3#8 = cell .lax .indexedIndirectX 6 := rfl
@[simp] theorem descriptor_A4 : descriptor 0xA4#8 = cell .ldy .zeropage 3 := rfl
@[simp] theorem descriptor_A5 : descriptor 0xA5#8 = cell .lda .zeropage 3 := rfl
@[simp] theorem descriptor_A6 : descriptor 0xA6#8 = cell .ldx .zeropage 3 := rfl
@[simp] theorem descriptor_A7 : descriptor 0xA7#8 = cell .lax .zeropage 3 := rfl
@[simp] theorem descriptor_A8 : descriptor 0xA8#8 = cell .tay .implied 2 := rfl
@[simp] theorem descriptor_A9 : descriptor 0xA9#8 = cell .lda .immediate 2 := rfl
@[simp] theorem descriptor_AA : descriptor 0xAA#8 = cell .tax .implied 2 := rfl
@[simp] theorem descriptor_AB : descriptor 0xAB#8 = cell .lax .immediate 2 := rfl
@[simp] theorem descriptor_AC : descriptor 0xAC#8 = cell .ldy .absolute 4 := rfl
@[simp] theorem descriptor_AD : descriptor 0xAD#8 = cell .lda .absolute 4 := rfl
@[simp] theorem descriptor_AE : descriptor 0xAE#8 = cell .ldx .absolute 4 := rfl
@[simp] theorem descriptor_AF : descriptor 0xAF#8 = cell .lax .absolute 4 := rfl
@[simp] theorem descriptor_B0 : descriptor 0xB0#8 = cell .bcs .relative 2 := rfl
@[simp] theorem descriptor_B1 : descriptor 0xB1#8 = cellPlus .lda .indirectIndexedY 5 := rfl
@[simp] theorem descriptor_B2 : descriptor 0xB2#8 = cellJam := rfl
@[simp] theorem descriptor_B3 : descriptor 0xB3#8 = cellPlus .lax .indirectIndexedY 5 := rfl
@[simp] theorem descriptor_B4 : descriptor 0xB4#8 = cell .ldy .zeropageIndexedX 4 := rfl
@[simp] theorem descriptor_B5 : descriptor 0xB5#8 = cell .lda .zeropageIndexedX 4 := rfl
@[simp] theorem descriptor_B6 : descriptor 0xB6#8 = cell .ldx .zeropageIndexedY 4 := rfl
@[simp] theorem descriptor_B7 : descriptor 0xB7#8 = cell .lax .zeropageIndexedY 4 := rfl
@[simp] theorem descriptor_B8 : descriptor 0xB8#8 = cell .clv .implied 2 := rfl
@[simp] theorem descriptor_B9 : descriptor 0xB9#8 = cellPlus .lda .absoluteIndexedY 4 := rfl
@[simp] theorem descriptor_BA : descriptor 0xBA#8 = cell .tsx .implied 2 := rfl
@[simp] theorem descriptor_BB : descriptor 0xBB#8 = cellPlus .las .absoluteIndexedY 4 := rfl
@[simp] theorem descriptor_BC : descriptor 0xBC#8 = cellPlus .ldy .absoluteIndexedX 4 := rfl
@[simp] theorem descriptor_BD : descriptor 0xBD#8 = cellPlus .lda .absoluteIndexedX 4 := rfl
@[simp] theorem descriptor_BE : descriptor 0xBE#8 = cellPlus .ldx .absoluteIndexedY 4 := rfl
@[simp] theorem descriptor_BF : descriptor 0xBF#8 = cellPlus .lax .absoluteIndexedY 4 := rfl
@[simp] theorem descriptor_C0 : descriptor 0xC0#8 = cell .cpy .immediate 2 := rfl
@[simp] theorem descriptor_C1 : descriptor 0xC1#8 = cell .cmp .indexedIndirectX 6 := rfl
@[simp] theorem descriptor_C2 : descriptor 0xC2#8 = cell .nop .immediate 2 := rfl
@[simp] theorem descriptor_C3 : descriptor 0xC3#8 = cell .dcp .indexedIndirectX 8 := rfl
@[simp] theorem descriptor_C4 : descriptor 0xC4#8 = cell .cpy .zeropage 3 := rfl
@[simp] theorem descriptor_C5 : descriptor 0xC5#8 = cell .cmp .zeropage 3 := rfl
@[simp] theorem descriptor_C6 : descriptor 0xC6#8 = cell .dec .zeropage 5 := rfl
@[simp] theorem descriptor_C7 : descriptor 0xC7#8 = cell .dcp .zeropage 5 := rfl
@[simp] theorem descriptor_C8 : descriptor 0xC8#8 = cell .iny .implied 2 := rfl
@[simp] theorem descriptor_C9 : descriptor 0xC9#8 = cell .cmp .immediate 2 := rfl
@[simp] theorem descriptor_CA : descriptor 0xCA#8 = cell .dex .implied 2 := rfl
@[simp] theorem descriptor_CB : descriptor 0xCB#8 = cell .axs .immediate 2 := rfl
@[simp] theorem descriptor_CC : descriptor 0xCC#8 = cell .cpy .absolute 4 := rfl
@[simp] theorem descriptor_CD : descriptor 0xCD#8 = cell .cmp .absolute 4 := rfl
@[simp] theorem descriptor_CE : descriptor 0xCE#8 = cell .dec .absolute 6 := rfl
@[simp] theorem descriptor_CF : descriptor 0xCF#8 = cell .dcp .absolute 6 := rfl
@[simp] theorem descriptor_D0 : descriptor 0xD0#8 = cell .bne .relative 2 := rfl
@[simp] theorem descriptor_D1 : descriptor 0xD1#8 = cellPlus .cmp .indirectIndexedY 5 := rfl
@[simp] theorem descriptor_D2 : descriptor 0xD2#8 = cellJam := rfl
@[simp] theorem descriptor_D3 : descriptor 0xD3#8 = cell .dcp .indirectIndexedY 8 := rfl
@[simp] theorem descriptor_D4 : descriptor 0xD4#8 = cell .nop .zeropageIndexedX 4 := rfl
@[simp] theorem descriptor_D5 : descriptor 0xD5#8 = cell .cmp .zeropageIndexedX 4 := rfl
@[simp] theorem descriptor_D6 : descriptor 0xD6#8 = cell .dec .zeropageIndexedX 6 := rfl
@[simp] theorem descriptor_D7 : descriptor 0xD7#8 = cell .dcp .zeropageIndexedX 6 := rfl
@[simp] theorem descriptor_D8 : descriptor 0xD8#8 = cell .cld .implied 2 := rfl
@[simp] theorem descriptor_D9 : descriptor 0xD9#8 = cellPlus .cmp .absoluteIndexedY 4 := rfl
@[simp] theorem descriptor_DA : descriptor 0xDA#8 = cell .nop .implied 2 := rfl
@[simp] theorem descriptor_DB : descriptor 0xDB#8 = cell .dcp .absoluteIndexedY 7 := rfl
@[simp] theorem descriptor_DC : descriptor 0xDC#8 = cellPlus .nop .absoluteIndexedX 4 := rfl
@[simp] theorem descriptor_DD : descriptor 0xDD#8 = cellPlus .cmp .absoluteIndexedX 4 := rfl
@[simp] theorem descriptor_DE : descriptor 0xDE#8 = cell .dec .absoluteIndexedX 7 := rfl
@[simp] theorem descriptor_DF : descriptor 0xDF#8 = cell .dcp .absoluteIndexedX 7 := rfl
@[simp] theorem descriptor_E0 : descriptor 0xE0#8 = cell .cpx .immediate 2 := rfl
@[simp] theorem descriptor_E1 : descriptor 0xE1#8 = cell .sbc .indexedIndirectX 6 := rfl
@[simp] theorem descriptor_E2 : descriptor 0xE2#8 = cell .nop .immediate 2 := rfl
@[simp] theorem descriptor_E3 : descriptor 0xE3#8 = cell .isc .indexedIndirectX 8 := rfl
@[simp] theorem descriptor_E4 : descriptor 0xE4#8 = cell .cpx .zeropage 3 := rfl
@[simp] theorem descriptor_E5 : descriptor 0xE5#8 = cell .sbc .zeropage 3 := rfl
@[simp] theorem descriptor_E6 : descriptor 0xE6#8 = cell .inc .zeropage 5 := rfl
@[simp] theorem descriptor_E7 : descriptor 0xE7#8 = cell .isc .zeropage 5 := rfl
@[simp] theorem descriptor_E8 : descriptor 0xE8#8 = cell .inx .implied 2 := rfl
@[simp] theorem descriptor_E9 : descriptor 0xE9#8 = cell .sbc .immediate 2 := rfl
@[simp] theorem descriptor_EA : descriptor 0xEA#8 = cell .nop .implied 2 := rfl
@[simp] theorem descriptor_EB : descriptor 0xEB#8 = cell .sbc .immediate 2 := rfl
@[simp] theorem descriptor_EC : descriptor 0xEC#8 = cell .cpx .absolute 4 := rfl
@[simp] theorem descriptor_ED : descriptor 0xED#8 = cell .sbc .absolute 4 := rfl
@[simp] theorem descriptor_EE : descriptor 0xEE#8 = cell .inc .absolute 6 := rfl
@[simp] theorem descriptor_EF : descriptor 0xEF#8 = cell .isc .absolute 6 := rfl
@[simp] theorem descriptor_F0 : descriptor 0xF0#8 = cell .beq .relative 2 := rfl
@[simp] theorem descriptor_F1 : descriptor 0xF1#8 = cellPlus .sbc .indirectIndexedY 5 := rfl
@[simp] theorem descriptor_F2 : descriptor 0xF2#8 = cellJam := rfl
@[simp] theorem descriptor_F3 : descriptor 0xF3#8 = cell .isc .indirectIndexedY 8 := rfl
@[simp] theorem descriptor_F4 : descriptor 0xF4#8 = cell .nop .zeropageIndexedX 4 := rfl
@[simp] theorem descriptor_F5 : descriptor 0xF5#8 = cell .sbc .zeropageIndexedX 4 := rfl
@[simp] theorem descriptor_F6 : descriptor 0xF6#8 = cell .inc .zeropageIndexedX 6 := rfl
@[simp] theorem descriptor_F7 : descriptor 0xF7#8 = cell .isc .zeropageIndexedX 6 := rfl
@[simp] theorem descriptor_F8 : descriptor 0xF8#8 = cell .sed .implied 2 := rfl
@[simp] theorem descriptor_F9 : descriptor 0xF9#8 = cellPlus .sbc .absoluteIndexedY 4 := rfl
@[simp] theorem descriptor_FA : descriptor 0xFA#8 = cell .nop .implied 2 := rfl
@[simp] theorem descriptor_FB : descriptor 0xFB#8 = cell .isc .absoluteIndexedY 7 := rfl
@[simp] theorem descriptor_FC : descriptor 0xFC#8 = cellPlus .nop .absoluteIndexedX 4 := rfl
@[simp] theorem descriptor_FD : descriptor 0xFD#8 = cellPlus .sbc .absoluteIndexedX 4 := rfl
@[simp] theorem descriptor_FE : descriptor 0xFE#8 = cell .inc .absoluteIndexedX 7 := rfl
@[simp] theorem descriptor_FF : descriptor 0xFF#8 = cell .isc .absoluteIndexedX 7 := rfl

@[simp] theorem cell_operation (op : Operation) (m : Mode) (k : Nat) : (cell op m k).operation = op := rfl
@[simp] theorem cell_mode (op : Operation) (m : Mode) (k : Nat) : (cell op m k).mode = m := rfl
@[simp] theorem cell_baseCycles (op : Operation) (m : Mode) (k : Nat) : (cell op m k).baseCycles = some k := rfl
@[simp] theorem cell_extraOnCross (op : Operation) (m : Mode) (k : Nat) : (cell op m k).extraOnCross = false := rfl
@[simp] theorem cell_rmw (op : Operation) (m : Mode) (k : Nat) : (cell op m k).rmw = rmwFlag op m := rfl
@[simp] theorem cellPlus_operation (op : Operation) (m : Mode) (k : Nat) : (cellPlus op m k).operation = op := rfl
@[simp] theorem cellPlus_mode (op : Operation) (m : Mode) (k : Nat) : (cellPlus op m k).mode = m := rfl
@[simp] theorem cellPlus_baseCycles (op : Operation) (m : Mode) (k : Nat) : (cellPlus op m k).baseCycles = some k := rfl
@[simp] theorem cellPlus_extraOnCross (op : Operation) (m : Mode) (k : Nat) : (cellPlus op m k).extraOnCross = true := rfl
@[simp] theorem cellPlus_rmw (op : Operation) (m : Mode) (k : Nat) : (cellPlus op m k).rmw = rmwFlag op m := rfl
@[simp] theorem cellJam_operation : cellJam.operation = .jam := rfl
@[simp] theorem cellJam_mode : cellJam.mode = .implied := rfl
@[simp] theorem cellJam_baseCycles : cellJam.baseCycles = none := rfl

@[simp] theorem wordOf_hi_lo (w : Word) : wordOf (hiByte w) (loByte w) = w := by
  unfold wordOf hiByte loByte; ext i hi; simp; grind

@[simp] theorem hiByte_wordOf (h l : Byte) : hiByte (wordOf h l) = h := by
  unfold wordOf hiByte; ext i hi; simp; grind

@[simp] theorem loByte_wordOf (h l : Byte) : loByte (wordOf h l) = l := by
  unfold wordOf loByte; ext i hi; simp; grind

end Sys2Proof
end

