-- ==== Sys2Proof/Laws/Shapes.lean ====
section
/-! SUPPORT. What an instruction of each access class does, said once: with an operation that touches registers only, the class's
shape answers the next state whose registers are the operation's, with the class's bus accesses, and nothing else changed
but what the class stores (spec 40_addressing.md R112 to R122). -/

namespace Sys2Proof.Machine

/-- `u` differs from `s` in A, X, Y, SP and the flags at most. -/
structure Quiet (s u : State) : Prop where
  pc : u.pc = s.pc
  hidden : u.hidden = s.hidden
  platform : u.platform = s.platform
  mem : u.mem = s.mem
  trace : u.trace = s.trace

theorem State.peek_congr {s u : State} (h : u.mem = s.mem) (a : Word) : u.peek a = s.peek a := by
  simp only [State.peek, h]

theorem State.writable_congr {s u : State} (h : u.platform = s.platform) (a : Word) : u.writable a = s.writable a := by
  have : u.readOnly = s.readOnly := congrArg Platform.readOnly h
  simp only [State.writable, this]

/-- The end of an instruction other than BRK: what `finish` leaves, from what the cycles before it left. -/
theorem ran_finish {s u : State} {i : Instr} {crossed : Bool} {p : Nat} {tr : List BusAccess}
    (hb : (descriptor i.opcode).operation ≠ .brk) (hh : u.hidden = s.hidden) (hp : u.platform = s.platform)
    (ht : u.trace = tr) (hc : realizedCycles (descriptor i.opcode) crossed p = tr.length) :
    s.Ran (u.finish i.opcode s.flags.i crossed p) i u.regs
      (if lagsPoll (descriptor i.opcode).operation then s.flags.i else u.flags.i) tr where
  regs := rfl
  hidden := by
    rw [← hh]
    simp [State.hidden, hb]
  platform := by rw [← hp]; rfl
  outcome := rfl
  event := by simp [eventOf, hb]
  trace := ht
  cycles := hc

/-- The base cycle count of the read class in each mode (70_reset_and_hazards.md R456). -/
def readBase : MemOperand → Nat
  | .zp _ => 3
  | .zpx _ | .zpy _ | .abs _ | .abx _ | .aby _ => 4
  | .izx _ => 6
  | .izy _ => 5

/-- The base cycle count of the write class in each mode (R456). -/
def writeBase : MemOperand → Nat
  | .zp _ => 3
  | .zpx _ | .zpy _ | .abs _ => 4
  | .abx _ | .aby _ => 5
  | .izx _ | .izy _ => 6

variable {s : State} {i : Instr} {m : MemOperand}

/-- Reads before it do not change what a mode reads. -/
@[simp] theorem addressReads_begin (op : Byte) : (s.begin op).addressReads m = s.addressReads m := by cases m <;> rfl
@[simp] theorem fixupReads_begin (op : Byte) : (s.begin op).fixupReads m = s.fixupReads m := by cases m <;> rfl

theorem begin_stream (h : i.operand = .memory m) :
    [⟨.read, s.pc, i.opcode⟩] ++ streamReads (s.pc + 1) m.bytes = streamReads s.pc (encode i) := by
  simp [encode, h, Operand.bytes, streamReads]

/-- PC after the opcode and the operand bytes. -/
theorem nextPc_memory (h : i.operand = .memory m) : s.pc + 1 + BitVec.ofNat 16 m.mode.operandBytes = s.nextPc i := by
  have : m.mode.operandBytes = (Operand.memory m).mode.operandBytes := rfl
  rw [State.nextPc, Instr.length, h, this, BitVec.add_assoc, BitVec.ofNat_add]
  rfl

theorem readTrace_length (h : i.operand = .memory m) :
    (s.readTrace i).length = readBase m + if (index16 m s).isSome && pageCrossed m s then 1 else 0 := by
  rw [State.readTrace, h]
  cases m <;>
    simp [encode, h, Operand.bytes, MemOperand.bytes, streamReads, State.addressReads, readBase, index16]
  all_goals first | exact pageCrossed_of_not_indexed rfl | (split <;> simp_all)

theorem writeTrace_length (h : i.operand = .memory m) (addr : Word) (v : Byte) :
    (s.writeTrace i m addr v).length = writeBase m := by
  cases m <;>
    simp [State.writeTrace, State.prefixReads, State.fixupReads, encode, h, Operand.bytes, MemOperand.bytes, streamReads,
      State.addressReads, writeBase, index16]

theorem modifyTrace_length (h : i.operand = .memory m) (w : Byte) :
    (s.modifyTrace i m w).length = writeBase m + 2 := by
  cases m <;>
    simp [State.modifyTrace, State.prefixReads, State.fixupReads, encode, h, Operand.bytes, MemOperand.bytes, streamReads,
      State.addressReads, writeBase, index16]

/-- The state in which the operation of a reading instruction runs. -/
def State.operandRead (s : State) (i : Instr) (m : MemOperand) : State := (resolve m (s.begin i.opcode)).readOperand.2

/-- The read class on a memory operand. -/
theorem runRead_ran {f : Byte → State → State} (hf : ∀ v t, Quiet t (f v t)) (h : i.operand = .memory m)
    (hb : (descriptor i.opcode).operation ≠ .brk)
    (hd : (descriptor i.opcode).baseCycles = some (readBase m))
    (he : (descriptor i.opcode).extraOnCross = (index16 m s).isSome) :
    let u := f (s.peek (effectiveAddress m s)) (s.operandRead i m)
    ∃ t, runRead i.opcode m f s = .next t ∧ s.SameMemory t ∧
      s.Ran t i { u.regs with pc := s.nextPc i }
        (if lagsPoll (descriptor i.opcode).operation then s.flags.i else u.flags.i) (s.readTrace i) := by
  intro u
  have q := hf (s.peek (effectiveAddress m s)) (s.operandRead i m)
  have hu : (runRead i.opcode m f s) = .next (u.finish i.opcode s.flags.i (pageCrossed m s) 0) := by
    simp [runRead, u, State.operandRead]
  refine ⟨_, hu, ?_, ?_⟩
  · intro a
    simp only [State.finish_peek]
    rw [State.peek_congr q.mem]
    simp [State.operandRead]
  · have hpc : u.pc = s.nextPc i := by rw [q.pc]; simp [State.operandRead, ← nextPc_memory h]
    rw [← hpc]
    refine ran_finish hb ?_ ?_ ?_ ?_
    · rw [q.hidden]; simp [State.operandRead, State.hidden]
    · rw [q.platform]; simp [State.operandRead, State.platform]
    · rw [q.trace, State.operandRead, readOperand_trace]
      simp only [State.begin_trace, State.begin_pc, begin_stream h, State.readTrace, h]
      simp [State.rd, List.append_assoc]
    · simp [realizedCycles, hd, he, readTrace_length h]

/-- Immediate. -/
theorem runImmediate_ran {f : Byte → State → State} {v : Byte} (hf : ∀ v t, Quiet t (f v t))
    (h : i.operand = .immediate v)
    (hb : (descriptor i.opcode).operation ≠ .brk) (hd : (descriptor i.opcode).baseCycles = some 2) :
    let u := f v ((s.begin i.opcode).fetchByte v)
    ∃ t, runImmediate i.opcode v f s = .next t ∧ s.SameMemory t ∧
      s.Ran t i { u.regs with pc := s.nextPc i }
        (if lagsPoll (descriptor i.opcode).operation then s.flags.i else u.flags.i) (s.readTrace i) := by
  intro u
  have q := hf v ((s.begin i.opcode).fetchByte v)
  refine ⟨_, rfl, fun a => State.peek_congr (q.mem.trans (by simp)) a, ?_⟩
  have hpc : u.pc = s.nextPc i := by
    rw [q.pc]
    simp only [State.fetchByte_pc, State.begin_pc, State.nextPc, Instr.length, h]
    rw [BitVec.add_assoc]; rfl
  rw [← hpc]
  refine ran_finish hb ?_ ?_ ?_ ?_
  · rw [q.hidden]; simp [State.hidden]
  · rw [q.platform]; simp [State.platform]
  · rw [q.trace]; simp [State.readTrace, h, encode, Operand.bytes, streamReads]
  · simp [realizedCycles, hd, State.readTrace, h, encode, Operand.bytes, streamReads]

/-- Implied and accumulator forms of 2 cycles. -/
theorem runImplied_ran {f : State → State} (hf : ∀ t, Quiet t (f t))
    (h : i.operand = .implied ∨ i.operand = .accumulator)
    (hb : (descriptor i.opcode).operation ≠ .brk) (hd : (descriptor i.opcode).baseCycles = some 2) :
    let u := f ((s.begin i.opcode).dummyRead (s.pc + 1))
    ∃ t, runImplied i.opcode f s = .next t ∧ s.SameMemory t ∧
      s.Ran t i { u.regs with pc := s.pc + 1 }
        (if lagsPoll (descriptor i.opcode).operation then s.flags.i else u.flags.i) (s.readTrace i) := by
  intro u
  have q : Quiet ((s.begin i.opcode).dummyRead (s.pc + 1)) u := hf _
  have hu : runImplied i.opcode f s = .next (u.finish i.opcode s.flags.i false 0) := rfl
  clear_value u
  refine ⟨_, hu, fun a => State.peek_congr (q.mem.trans (by simp)) a, ?_⟩
  have hpc : u.pc = s.pc + 1 := by rw [q.pc]; simp
  have hn : s.nextPc i = s.pc + 1 := by rcases h with h | h <;> rw [State.nextPc, Instr.length, h] <;> rfl
  have htr : s.readTrace i = [⟨.read, s.pc, i.opcode⟩, s.rd (s.pc + 1)] := by
    rcases h with h | h <;> simp [State.readTrace, h, encode, Operand.bytes, streamReads, hn]
  rw [← hpc]
  refine ran_finish hb ?_ ?_ ?_ ?_
  · rw [q.hidden]; simp [State.hidden]
  · rw [q.platform]; simp [State.platform]
  · rw [q.trace, htr]; simp [State.rd]
  · simp [realizedCycles, hd, htr]

/-- The write class: one store at `addr` after the mode's cycles and an operation `pre` on registers. -/
theorem store_ran {pre : State → State} {v : Byte} {addr : Word} (hq : ∀ t, Quiet t (pre t)) (hw : s.mem.wf = true)
    (h : i.operand = .memory m)
    (hb : (descriptor i.opcode).operation ≠ .brk)
    (hd : (descriptor i.opcode).baseCycles = some (writeBase m)) (he : (descriptor i.opcode).extraOnCross = false) :
    let u := pre (resolve m (s.begin i.opcode)).fixupRead
    let t := (u.memWrite addr v).finish i.opcode s.flags.i (pageCrossed m s) 0
    s.Stored t addr v ∧
      s.Ran t i { u.regs with pc := s.nextPc i }
        (if lagsPoll (descriptor i.opcode).operation then s.flags.i else u.flags.i) (s.writeTrace i m addr v) := by
  intro u t
  have q := hq (resolve m (s.begin i.opcode)).fixupRead
  have hmem : u.mem = s.mem := q.mem.trans (by simp)
  have hpl : u.platform = s.platform := q.platform.trans (by simp [State.platform])
  constructor
  · intro a
    have := State.memWrite_peek (s := u) (by rw [hmem]; exact hw) addr a v
    simp only [t, State.finish_peek, this, State.peek_congr hmem, State.writable_congr hpl]
  · have hpc : (u.memWrite addr v).pc = s.nextPc i := by
      simp [u, q.pc, ← nextPc_memory h]
    have hregs : (u.memWrite addr v).regs = { u.regs with pc := s.nextPc i } := by
      rw [← hpc]; simp [State.regs]
    rw [← hregs]
    refine ran_finish hb ?_ ?_ ?_ ?_
    · simpa [State.hidden] using q.hidden
    · simpa [State.platform] using hpl
    · simp only [State.memWrite_trace, u, q.trace, fixupRead_trace]
      simp only [State.begin_trace, State.begin_pc, begin_stream h]
      simp [State.writeTrace, State.prefixReads, wr]
    · rw [writeTrace_length h]; simp [realizedCycles, hd, he]

/-- The write class on a memory operand. -/
theorem runWrite_ran {value : State → Byte} (hw : s.mem.wf = true) (h : i.operand = .memory m)
    (hb : (descriptor i.opcode).operation ≠ .brk)
    (hd : (descriptor i.opcode).baseCycles = some (writeBase m)) (he : (descriptor i.opcode).extraOnCross = false) :
    ∃ t, runWrite i.opcode m value s = .next t ∧ s.Stored t (effectiveAddress m s) (value s) ∧
      s.Ran t i { s.regs with pc := s.nextPc i }
        (if lagsPoll (descriptor i.opcode).operation then s.flags.i else s.flags.i)
        (s.writeTrace i m (effectiveAddress m s) (value s)) := by
  have := store_ran (pre := id) (v := value s) (addr := effectiveAddress m s) (fun t => ⟨rfl, rfl, rfl, rfl, rfl⟩) hw h hb
    hd he
  refine ⟨_, ?_, this.1, ?_⟩
  · simp [runWrite]
  · simpa [State.regs] using this.2

/-- The state in which the operation of a read-modify-write instruction runs: the operand read and written back. -/
def State.operandModified (s : State) (i : Instr) (m : MemOperand) : State :=
  ((resolve m (s.begin i.opcode)).fixupRead.readCycle (effectiveAddress m s)).memWrite (effectiveAddress m s)
    (s.peek (effectiveAddress m s))

/-- The read-modify-write class on a memory operand. -/
theorem runModify_ran {f : Byte → State → Byte × State} (hf : ∀ v t, Quiet t (f v t).2) (hw : s.mem.wf = true)
    (h : i.operand = .memory m)
    (hb : (descriptor i.opcode).operation ≠ .brk)
    (hd : (descriptor i.opcode).baseCycles = some (writeBase m + 2)) (he : (descriptor i.opcode).extraOnCross = false) :
    let w := f (s.peek (effectiveAddress m s)) (s.operandModified i m)
    ∃ t, runModify i.opcode m f s = .next t ∧ s.Stored t (effectiveAddress m s) w.1 ∧
      s.Ran t i { w.2.regs with pc := s.nextPc i }
        (if lagsPoll (descriptor i.opcode).operation then s.flags.i else w.2.flags.i) (s.modifyTrace i m w.1) := by
  intro w
  have q : Quiet (s.operandModified i m) w.2 := hf _ _
  have hu : runModify i.opcode m f s =
      .next ((w.2.memWrite (effectiveAddress m s) w.1).finish i.opcode s.flags.i (pageCrossed m s) 0) := by
    simp [runModify, modifyOperand_eq, w, State.operandModified]
  clear_value w
  have hwf : (s.operandModified i m).mem.wf = true := State.memWrite_wf (by simpa using hw) _ _
  have hpl : w.2.platform = s.platform := q.platform.trans (by simp [State.platform, State.operandModified])
  refine ⟨_, hu, ?_, ?_⟩
  · intro a
    have h1 := State.memWrite_peek (s := w.2) (by rw [q.mem]; exact hwf) (effectiveAddress m s) a w.1
    have h2 : (s.operandModified i m).peek a = if a = effectiveAddress m s ∧ s.writable (effectiveAddress m s) = true
        then s.peek (effectiveAddress m s) else s.peek a := by
      have := State.memWrite_peek (s := (resolve m (s.begin i.opcode)).fixupRead.readCycle (effectiveAddress m s))
        (by simpa using hw) (effectiveAddress m s) a (s.peek (effectiveAddress m s))
      simpa [State.operandModified] using this
    simp only [State.finish_peek, h1, State.peek_congr q.mem, State.writable_congr hpl, h2]
    grind
  · have hpc : (w.2.memWrite (effectiveAddress m s) w.1).pc = s.nextPc i := by
      simp [q.pc, State.operandModified, ← nextPc_memory h]
    have hregs : (w.2.memWrite (effectiveAddress m s) w.1).regs = { w.2.regs with pc := s.nextPc i } := by
      rw [← hpc]; simp [State.regs]
    rw [← hregs]
    refine ran_finish hb ?_ ?_ ?_ ?_
    · have := q.hidden; simp [State.hidden, State.operandModified] at this ⊢; exact this
    · simpa [State.platform] using hpl
    · simp only [State.memWrite_trace, q.trace, State.operandModified, State.readCycle_trace, fixupRead_trace]
      simp only [State.begin_trace, State.begin_pc, begin_stream h]
      simp [State.modifyTrace, State.prefixReads, wr, State.rd]
    · rw [modifyTrace_length h]; simp [realizedCycles, hd, he]

/-! ## The shapes as statements about `exec`: cite these with `rfl` for the first two premises -/

variable {r : Regs} {p : Bool} {v w : Byte}

/-- An instruction of the read class. -/
theorem exec_of_read {f : Byte → State → State} (h : i.operand = .memory m)
    (hx : exec i s = runRead i.opcode m f s) (hf : ∀ v t, Quiet t (f v t)) (hb : (descriptor i.opcode).operation ≠ .brk)
    (hd : (descriptor i.opcode).baseCycles = some (readBase m))
    (he : (descriptor i.opcode).extraOnCross = (index16 m s).isSome)
    (hr : { (f (s.peek (effectiveAddress m s)) (s.operandRead i m)).regs with pc := s.nextPc i } = r)
    (hp : (if lagsPoll (descriptor i.opcode).operation then s.flags.i
      else (f (s.peek (effectiveAddress m s)) (s.operandRead i m)).regs.flags.i) = p) :
    ∃ t, exec i s = .next t ∧ s.SameMemory t ∧ s.Ran t i r p (s.readTrace i) := by
  rw [hx, ← hr, ← hp]; exact runRead_ran hf h hb hd he

/-- An immediate instruction. -/
theorem exec_of_immediate {f : Byte → State → State} (h : i.operand = .immediate v)
    (hx : exec i s = runImmediate i.opcode v f s) (hf : ∀ v t, Quiet t (f v t)) (hb : (descriptor i.opcode).operation ≠ .brk)
    (hd : (descriptor i.opcode).baseCycles = some 2)
    (hr : { (f v ((s.begin i.opcode).fetchByte v)).regs with pc := s.nextPc i } = r)
    (hp : (if lagsPoll (descriptor i.opcode).operation then s.flags.i
      else (f v ((s.begin i.opcode).fetchByte v)).regs.flags.i) = p) :
    ∃ t, exec i s = .next t ∧ s.SameMemory t ∧ s.Ran t i r p (s.readTrace i) := by
  rw [hx, ← hr, ← hp]; exact runImmediate_ran hf h hb hd

/-- An implied or accumulator instruction of 2 cycles. -/
theorem exec_of_implied {f : State → State} (h : i.operand = .implied ∨ i.operand = .accumulator)
    (hx : exec i s = runImplied i.opcode f s) (hf : ∀ t, Quiet t (f t)) (hb : (descriptor i.opcode).operation ≠ .brk)
    (hd : (descriptor i.opcode).baseCycles = some 2)
    (hr : { (f ((s.begin i.opcode).dummyRead (s.pc + 1))).regs with pc := s.pc + 1 } = r)
    (hp : (if lagsPoll (descriptor i.opcode).operation then s.flags.i
      else (f ((s.begin i.opcode).dummyRead (s.pc + 1))).regs.flags.i) = p) :
    ∃ t, exec i s = .next t ∧ s.SameMemory t ∧ s.Ran t i r p (s.readTrace i) := by
  rw [hx, ← hr, ← hp]; exact runImplied_ran hf h hb hd

/-- An instruction of the write class that stores at its effective address. -/
theorem exec_of_write {value : State → Byte} (h : i.operand = .memory m) (hx : exec i s = runWrite i.opcode m value s)
    (hw : s.mem.wf = true) (hb : (descriptor i.opcode).operation ≠ .brk)
    (hd : (descriptor i.opcode).baseCycles = some (writeBase m)) (he : (descriptor i.opcode).extraOnCross = false)
    (hv : value s = v) :
    ∃ t, exec i s = .next t ∧ s.Stored t (effectiveAddress m s) v ∧
      s.Ran t i { s.regs with pc := s.nextPc i } s.flags.i (s.writeTrace i m (effectiveAddress m s) v) := by
  obtain ⟨t, h1, h2, h3⟩ := runWrite_ran (value := value) hw h hb hd he
  subst hv
  exact ⟨t, hx ▸ h1, h2, by rwa [ite_self] at h3⟩

/-- An instruction of the read-modify-write class. -/
theorem exec_of_modify {f : Byte → State → Byte × State} (h : i.operand = .memory m)
    (hx : exec i s = runModify i.opcode m f s) (hf : ∀ v t, Quiet t (f v t).2) (hw : s.mem.wf = true)
    (hb : (descriptor i.opcode).operation ≠ .brk)
    (hd : (descriptor i.opcode).baseCycles = some (writeBase m + 2)) (he : (descriptor i.opcode).extraOnCross = false)
    (hv : (f (s.peek (effectiveAddress m s)) (s.operandModified i m)).1 = w)
    (hr : { (f (s.peek (effectiveAddress m s)) (s.operandModified i m)).2.regs with pc := s.nextPc i } = r)
    (hp : (if lagsPoll (descriptor i.opcode).operation then s.flags.i
      else (f (s.peek (effectiveAddress m s)) (s.operandModified i m)).2.regs.flags.i) = p) :
    ∃ t, exec i s = .next t ∧ s.Stored t (effectiveAddress m s) w ∧ s.Ran t i r p (s.modifyTrace i m w) := by
  rw [hx, ← hr, ← hp, ← hv]; exact runModify_ran hf hw h hb hd he

/-- The registers and parameters in the states where operations run. -/
@[simp] theorem operandRead_regs : (s.operandRead i m).regs = { s.regs with pc := (s.operandRead i m).pc } := by
  simp [State.operandRead, State.regs]
@[simp] theorem operandRead_config : (s.operandRead i m).config = s.config := by simp [State.operandRead]
@[simp] theorem operandModified_regs :
    (s.operandModified i m).regs = { s.regs with pc := (s.operandModified i m).pc } := by
  simp [State.operandModified, State.regs]
@[simp] theorem operandModified_config : (s.operandModified i m).config = s.config := by simp [State.operandModified]
@[simp] theorem operandRead_a : (s.operandRead i m).a = s.a := by simp [State.operandRead]
@[simp] theorem operandRead_x : (s.operandRead i m).x = s.x := by simp [State.operandRead]
@[simp] theorem operandRead_y : (s.operandRead i m).y = s.y := by simp [State.operandRead]
@[simp] theorem operandRead_sp : (s.operandRead i m).sp = s.sp := by simp [State.operandRead]
@[simp] theorem operandRead_flags : (s.operandRead i m).flags = s.flags := by simp [State.operandRead]
@[simp] theorem operandModified_a : (s.operandModified i m).a = s.a := by simp [State.operandModified]
@[simp] theorem operandModified_x : (s.operandModified i m).x = s.x := by simp [State.operandModified]
@[simp] theorem operandModified_y : (s.operandModified i m).y = s.y := by simp [State.operandModified]
@[simp] theorem operandModified_sp : (s.operandModified i m).sp = s.sp := by simp [State.operandModified]
@[simp] theorem operandModified_flags : (s.operandModified i m).flags = s.flags := by simp [State.operandModified]

theorem State.regs_flags_i (s : State) : s.regs.flags.i = s.flags.i := rfl

end Sys2Proof.Machine
end

