-- ==== Sys2Proof/Laws/Meanings.lean ====
section
/-! SUPPORT. The operation of each mnemonic that touches registers only: that it touches nothing else, and the registers it
leaves. With the shapes of Laws/Shapes.lean these give every instruction built from it. -/

namespace Sys2Proof.Machine

variable (v : Byte) (s : State)

theorem opLda_quiet : Quiet s (opLda v s) := ⟨rfl, rfl, rfl, rfl, rfl⟩
theorem opLda_regs : (opLda v s).regs = { s.regs with a := v, flags := { s.flags with n := (v).getLsbD 7, z := v == 0 } } := rfl

theorem opLdx_quiet : Quiet s (opLdx v s) := ⟨rfl, rfl, rfl, rfl, rfl⟩
theorem opLdx_regs : (opLdx v s).regs = { s.regs with x := v, flags := { s.flags with n := (v).getLsbD 7, z := v == 0 } } := rfl

theorem opLdy_quiet : Quiet s (opLdy v s) := ⟨rfl, rfl, rfl, rfl, rfl⟩
theorem opLdy_regs : (opLdy v s).regs = { s.regs with y := v, flags := { s.flags with n := (v).getLsbD 7, z := v == 0 } } := rfl

theorem opAdc_quiet : Quiet s (opAdc v s) := ⟨rfl, rfl, rfl, rfl, rfl⟩
theorem opAdc_regs : (opAdc v s).regs = { s.regs with a := (adcByte s.a v s.flags).1, flags := (adcByte s.a v s.flags).2 } := rfl

theorem opSbc_quiet : Quiet s (opSbc v s) := ⟨rfl, rfl, rfl, rfl, rfl⟩
theorem opSbc_regs : (opSbc v s).regs = { s.regs with a := (sbcByte s.a v s.flags).1, flags := (sbcByte s.a v s.flags).2 } := rfl

theorem opAnd_quiet : Quiet s (opAnd v s) := ⟨rfl, rfl, rfl, rfl, rfl⟩
theorem opAnd_regs : (opAnd v s).regs = { s.regs with a := s.a &&& v, flags := { s.flags with n := ((s.a &&& v)).getLsbD 7, z := (s.a &&& v) == 0 } } := rfl

theorem opOra_quiet : Quiet s (opOra v s) := ⟨rfl, rfl, rfl, rfl, rfl⟩
theorem opOra_regs : (opOra v s).regs = { s.regs with a := s.a ||| v, flags := { s.flags with n := ((s.a ||| v)).getLsbD 7, z := (s.a ||| v) == 0 } } := rfl

theorem opEor_quiet : Quiet s (opEor v s) := ⟨rfl, rfl, rfl, rfl, rfl⟩
theorem opEor_regs : (opEor v s).regs = { s.regs with a := s.a ^^^ v, flags := { s.flags with n := ((s.a ^^^ v)).getLsbD 7, z := (s.a ^^^ v) == 0 } } := rfl

theorem opBit_quiet : Quiet s (opBit v s) := ⟨rfl, rfl, rfl, rfl, rfl⟩
theorem opBit_regs : (opBit v s).regs = { s.regs with flags := bitTest s.a v s.flags } := rfl

theorem opCmp_quiet : Quiet s (opCmp v s) := ⟨rfl, rfl, rfl, rfl, rfl⟩
theorem opCmp_regs : (opCmp v s).regs = { s.regs with flags := compareFlags s.a v s.flags } := rfl

theorem opCpx_quiet : Quiet s (opCpx v s) := ⟨rfl, rfl, rfl, rfl, rfl⟩
theorem opCpx_regs : (opCpx v s).regs = { s.regs with flags := compareFlags s.x v s.flags } := rfl

theorem opCpy_quiet : Quiet s (opCpy v s) := ⟨rfl, rfl, rfl, rfl, rfl⟩
theorem opCpy_regs : (opCpy v s).regs = { s.regs with flags := compareFlags s.y v s.flags } := rfl

theorem opNop_quiet : Quiet s (opNop v s) := ⟨rfl, rfl, rfl, rfl, rfl⟩
theorem opNop_regs : (opNop v s).regs = s.regs := rfl

theorem opLax_quiet : Quiet s (opLax v s) := ⟨rfl, rfl, rfl, rfl, rfl⟩
theorem opLax_regs : (opLax v s).regs = { s.regs with a := v, x := v, flags := { s.flags with n := (v).getLsbD 7, z := v == 0 } } := rfl

theorem opLaxImmediate_quiet : Quiet s (opLaxImmediate v s) := ⟨rfl, rfl, rfl, rfl, rfl⟩
theorem opLaxImmediate_regs : (opLaxImmediate v s).regs = { s.regs with a := ((s.a ||| s.config.lxaMagic) &&& v), x := ((s.a ||| s.config.lxaMagic) &&& v), flags := { s.flags with n := (((s.a ||| s.config.lxaMagic) &&& v)).getLsbD 7, z := ((s.a ||| s.config.lxaMagic) &&& v) == 0 } } := rfl

theorem opLas_quiet : Quiet s (opLas v s) := ⟨rfl, rfl, rfl, rfl, rfl⟩
theorem opLas_regs : (opLas v s).regs = { s.regs with a := (v &&& s.sp), x := (v &&& s.sp), sp := (v &&& s.sp), flags := { s.flags with n := ((v &&& s.sp)).getLsbD 7, z := (v &&& s.sp) == 0 } } := rfl

theorem opAnc_quiet : Quiet s (opAnc v s) := ⟨rfl, rfl, rfl, rfl, rfl⟩
theorem opAnc_regs : (opAnc v s).regs = { s.regs with a := (s.a &&& v), flags := { { s.flags with n := ((s.a &&& v)).getLsbD 7, z := (s.a &&& v) == 0 } with c := (s.a &&& v).getLsbD 7 } } := rfl

theorem opAlr_quiet : Quiet s (opAlr v s) := ⟨rfl, rfl, rfl, rfl, rfl⟩
theorem opAlr_regs : (opAlr v s).regs = { s.regs with a := (s.a &&& v) >>> 1, flags := { s.flags with n := ((s.a &&& v) >>> 1).getLsbD 7, z := (s.a &&& v) >>> 1 == 0, c := (s.a &&& v).getLsbD 0 } } := rfl

theorem opArr_quiet : Quiet s (opArr v s) := ⟨rfl, rfl, rfl, rfl, rfl⟩
theorem opArr_regs : (opArr v s).regs = { s.regs with a := (arrByte (s.a &&& v) s.flags).1, flags := (arrByte (s.a &&& v) s.flags).2 } := rfl

theorem opXaa_quiet : Quiet s (opXaa v s) := ⟨rfl, rfl, rfl, rfl, rfl⟩
theorem opXaa_regs : (opXaa v s).regs = { s.regs with a := ((s.a ||| s.config.aneMagic) &&& s.x &&& v), flags := { s.flags with n := (((s.a ||| s.config.aneMagic) &&& s.x &&& v)).getLsbD 7, z := ((s.a ||| s.config.aneMagic) &&& s.x &&& v) == 0 } } := rfl

theorem opAxs_quiet : Quiet s (opAxs v s) := ⟨rfl, rfl, rfl, rfl, rfl⟩
theorem opAxs_regs : (opAxs v s).regs = { s.regs with x := ((s.a &&& s.x) - v), flags := { { s.flags with n := (((s.a &&& s.x) - v)).getLsbD 7, z := ((s.a &&& s.x) - v) == 0 } with c := decide (v.toNat ≤ (s.a &&& s.x).toNat) } } := rfl

theorem opTax_quiet : Quiet s (opTax s) := ⟨rfl, rfl, rfl, rfl, rfl⟩
theorem opTax_regs : (opTax s).regs = { s.regs with x := s.a, flags := { s.flags with n := (s.a).getLsbD 7, z := s.a == 0 } } := rfl

theorem opTay_quiet : Quiet s (opTay s) := ⟨rfl, rfl, rfl, rfl, rfl⟩
theorem opTay_regs : (opTay s).regs = { s.regs with y := s.a, flags := { s.flags with n := (s.a).getLsbD 7, z := s.a == 0 } } := rfl

theorem opTxa_quiet : Quiet s (opTxa s) := ⟨rfl, rfl, rfl, rfl, rfl⟩
theorem opTxa_regs : (opTxa s).regs = { s.regs with a := s.x, flags := { s.flags with n := (s.x).getLsbD 7, z := s.x == 0 } } := rfl

theorem opTya_quiet : Quiet s (opTya s) := ⟨rfl, rfl, rfl, rfl, rfl⟩
theorem opTya_regs : (opTya s).regs = { s.regs with a := s.y, flags := { s.flags with n := (s.y).getLsbD 7, z := s.y == 0 } } := rfl

theorem opTsx_quiet : Quiet s (opTsx s) := ⟨rfl, rfl, rfl, rfl, rfl⟩
theorem opTsx_regs : (opTsx s).regs = { s.regs with x := s.sp, flags := { s.flags with n := (s.sp).getLsbD 7, z := s.sp == 0 } } := rfl

theorem opInx_quiet : Quiet s (opInx s) := ⟨rfl, rfl, rfl, rfl, rfl⟩
theorem opInx_regs : (opInx s).regs = { s.regs with x := (s.x + 1), flags := { s.flags with n := ((s.x + 1)).getLsbD 7, z := (s.x + 1) == 0 } } := rfl

theorem opIny_quiet : Quiet s (opIny s) := ⟨rfl, rfl, rfl, rfl, rfl⟩
theorem opIny_regs : (opIny s).regs = { s.regs with y := (s.y + 1), flags := { s.flags with n := ((s.y + 1)).getLsbD 7, z := (s.y + 1) == 0 } } := rfl

theorem opDex_quiet : Quiet s (opDex s) := ⟨rfl, rfl, rfl, rfl, rfl⟩
theorem opDex_regs : (opDex s).regs = { s.regs with x := (s.x - 1), flags := { s.flags with n := ((s.x - 1)).getLsbD 7, z := (s.x - 1) == 0 } } := rfl

theorem opDey_quiet : Quiet s (opDey s) := ⟨rfl, rfl, rfl, rfl, rfl⟩
theorem opDey_regs : (opDey s).regs = { s.regs with y := (s.y - 1), flags := { s.flags with n := ((s.y - 1)).getLsbD 7, z := (s.y - 1) == 0 } } := rfl

theorem opTxs_quiet : Quiet s (opTxs s) := ⟨rfl, rfl, rfl, rfl, rfl⟩
theorem opTxs_regs : (opTxs s).regs = { s.regs with sp := s.x } := rfl

theorem opClc_quiet : Quiet s (opClc s) := ⟨rfl, rfl, rfl, rfl, rfl⟩
theorem opClc_regs : (opClc s).regs = { s.regs with flags := { s.flags with c := false } } := rfl

theorem opSec_quiet : Quiet s (opSec s) := ⟨rfl, rfl, rfl, rfl, rfl⟩
theorem opSec_regs : (opSec s).regs = { s.regs with flags := { s.flags with c := true } } := rfl

theorem opCli_quiet : Quiet s (opCli s) := ⟨rfl, rfl, rfl, rfl, rfl⟩
theorem opCli_regs : (opCli s).regs = { s.regs with flags := { s.flags with i := false } } := rfl

theorem opSei_quiet : Quiet s (opSei s) := ⟨rfl, rfl, rfl, rfl, rfl⟩
theorem opSei_regs : (opSei s).regs = { s.regs with flags := { s.flags with i := true } } := rfl

theorem opCld_quiet : Quiet s (opCld s) := ⟨rfl, rfl, rfl, rfl, rfl⟩
theorem opCld_regs : (opCld s).regs = { s.regs with flags := { s.flags with d := false } } := rfl

theorem opSed_quiet : Quiet s (opSed s) := ⟨rfl, rfl, rfl, rfl, rfl⟩
theorem opSed_regs : (opSed s).regs = { s.regs with flags := { s.flags with d := true } } := rfl

theorem opClv_quiet : Quiet s (opClv s) := ⟨rfl, rfl, rfl, rfl, rfl⟩
theorem opClv_regs : (opClv s).regs = { s.regs with flags := { s.flags with v := false } } := rfl

theorem opInc_quiet : Quiet s ((opInc v s).2) := ⟨rfl, rfl, rfl, rfl, rfl⟩
theorem opInc_regs : ((opInc v s).2).regs = { s.regs with flags := { s.flags with n := ((v + 1)).getLsbD 7, z := (v + 1) == 0 } } := rfl
theorem opInc_value : (opInc v s).1 = v + 1 := rfl

theorem opDec_quiet : Quiet s ((opDec v s).2) := ⟨rfl, rfl, rfl, rfl, rfl⟩
theorem opDec_regs : ((opDec v s).2).regs = { s.regs with flags := { s.flags with n := ((v - 1)).getLsbD 7, z := (v - 1) == 0 } } := rfl
theorem opDec_value : (opDec v s).1 = v - 1 := rfl

theorem opAsl_quiet : Quiet s ((opAsl v s).2) := ⟨rfl, rfl, rfl, rfl, rfl⟩
theorem opAsl_regs : ((opAsl v s).2).regs = { s.regs with flags := { (asl v s.flags).2 with n := (asl v s.flags).1.getLsbD 7, z := (asl v s.flags).1 == 0 } } := rfl
theorem opAsl_value : (opAsl v s).1 = (asl v s.flags).1 := rfl

theorem opLsr_quiet : Quiet s ((opLsr v s).2) := ⟨rfl, rfl, rfl, rfl, rfl⟩
theorem opLsr_regs : ((opLsr v s).2).regs = { s.regs with flags := { (lsr v s.flags).2 with n := (lsr v s.flags).1.getLsbD 7, z := (lsr v s.flags).1 == 0 } } := rfl
theorem opLsr_value : (opLsr v s).1 = (lsr v s.flags).1 := rfl

theorem opRol_quiet : Quiet s ((opRol v s).2) := ⟨rfl, rfl, rfl, rfl, rfl⟩
theorem opRol_regs : ((opRol v s).2).regs = { s.regs with flags := { (rol v s.flags).2 with n := (rol v s.flags).1.getLsbD 7, z := (rol v s.flags).1 == 0 } } := rfl
theorem opRol_value : (opRol v s).1 = (rol v s.flags).1 := rfl

theorem opRor_quiet : Quiet s ((opRor v s).2) := ⟨rfl, rfl, rfl, rfl, rfl⟩
theorem opRor_regs : ((opRor v s).2).regs = { s.regs with flags := { (ror v s.flags).2 with n := (ror v s.flags).1.getLsbD 7, z := (ror v s.flags).1 == 0 } } := rfl
theorem opRor_value : (opRor v s).1 = (ror v s.flags).1 := rfl

theorem opSlo_quiet : Quiet s ((opSlo v s).2) := ⟨rfl, rfl, rfl, rfl, rfl⟩
theorem opSlo_regs : ((opSlo v s).2).regs = { s.regs with a := (s.a ||| (asl v s.flags).1), flags := { (asl v s.flags).2 with n := (s.a ||| (asl v s.flags).1).getLsbD 7, z := (s.a ||| (asl v s.flags).1) == 0 } } := rfl
theorem opSlo_value : (opSlo v s).1 = (asl v s.flags).1 := rfl

theorem opRla_quiet : Quiet s ((opRla v s).2) := ⟨rfl, rfl, rfl, rfl, rfl⟩
theorem opRla_regs : ((opRla v s).2).regs = { s.regs with a := (s.a &&& (rol v s.flags).1), flags := { (rol v s.flags).2 with n := (s.a &&& (rol v s.flags).1).getLsbD 7, z := (s.a &&& (rol v s.flags).1) == 0 } } := rfl
theorem opRla_value : (opRla v s).1 = (rol v s.flags).1 := rfl

theorem opSre_quiet : Quiet s ((opSre v s).2) := ⟨rfl, rfl, rfl, rfl, rfl⟩
theorem opSre_regs : ((opSre v s).2).regs = { s.regs with a := (s.a ^^^ (lsr v s.flags).1), flags := { (lsr v s.flags).2 with n := (s.a ^^^ (lsr v s.flags).1).getLsbD 7, z := (s.a ^^^ (lsr v s.flags).1) == 0 } } := rfl
theorem opSre_value : (opSre v s).1 = (lsr v s.flags).1 := rfl

theorem opRra_quiet : Quiet s ((opRra v s).2) := ⟨rfl, rfl, rfl, rfl, rfl⟩
theorem opRra_regs : ((opRra v s).2).regs = { s.regs with a := (adcByte s.a (ror v s.flags).1 (ror v s.flags).2).1, flags := (adcByte s.a (ror v s.flags).1 (ror v s.flags).2).2 } := rfl
theorem opRra_value : (opRra v s).1 = (ror v s.flags).1 := rfl

theorem opDcp_quiet : Quiet s ((opDcp v s).2) := ⟨rfl, rfl, rfl, rfl, rfl⟩
theorem opDcp_regs : ((opDcp v s).2).regs = { s.regs with flags := compareFlags s.a (v - 1) s.flags } := rfl
theorem opDcp_value : (opDcp v s).1 = v - 1 := rfl

theorem opIsc_quiet : Quiet s ((opIsc v s).2) := ⟨rfl, rfl, rfl, rfl, rfl⟩
theorem opIsc_regs : ((opIsc v s).2).regs = { s.regs with a := (sbcByte s.a (v + 1) s.flags).1, flags := (sbcByte s.a (v + 1) s.flags).2 } := rfl
theorem opIsc_value : (opIsc v s).1 = v + 1 := rfl

end Sys2Proof.Machine
end

