-- ==== Sys2Proof/Laws/PerInstr.lean ====
section
/-! SUPPORT. One lemma per constructor of `Instr`: its opcode byte's descriptor in the opcode map names its operation, its mode
and its read-modify-write mark (spec 30_encoding.md R94, R95). -/

namespace Sys2Proof.Laws.Encoding

/-- What the encoding of an instruction says of it. -/
def Statement (i : Instr) : Prop :=
  (descriptor i.opcode).operation = i.operation ∧ (descriptor i.opcode).mode = i.operand.mode ∧
    (descriptor i.opcode).rmw = rmwFlag i.operation i.operand.mode

theorem of_cell {i : Instr} {k : Nat} (h : descriptor i.opcode = cell i.operation i.operand.mode k) : Statement i :=
  ⟨congrArg (·.operation) h, congrArg (·.mode) h, congrArg (·.rmw) h⟩

theorem of_cellPlus {i : Instr} {k : Nat} (h : descriptor i.opcode = cellPlus i.operation i.operand.mode k) :
    Statement i :=
  ⟨congrArg (·.operation) h, congrArg (·.mode) h, congrArg (·.rmw) h⟩

theorem of_cellJam {i : Instr} (h : descriptor i.opcode = cellJam) (ho : i.operation = .jam) (hm : i.operand = .implied) :
    Statement i := by
  simp [Statement, h, ho, hm, cellJam, rmwFlag, Operation.accessClass, Operand.mode]

variable (v ad off : Byte) (w : Word)

theorem brk : Statement .brk := of_cell descriptor_00
theorem oraIzx : Statement (.oraIzx ad) := of_cell descriptor_01
theorem jam02 : Statement .jam02 := of_cellJam descriptor_02 rfl rfl
theorem sloIzx : Statement (.sloIzx ad) := of_cell descriptor_03
theorem nopZp04 : Statement (.nopZp04 ad) := of_cell descriptor_04
theorem oraZp : Statement (.oraZp ad) := of_cell descriptor_05
theorem aslZp : Statement (.aslZp ad) := of_cell descriptor_06
theorem sloZp : Statement (.sloZp ad) := of_cell descriptor_07
theorem php : Statement .php := of_cell descriptor_08
theorem oraImm : Statement (.oraImm v) := of_cell descriptor_09
theorem aslAcc : Statement .aslAcc := of_cell descriptor_0A
theorem anc0B : Statement (.anc0B v) := of_cell descriptor_0B
theorem nopAbs : Statement (.nopAbs w) := of_cell descriptor_0C
theorem oraAbs : Statement (.oraAbs w) := of_cell descriptor_0D
theorem aslAbs : Statement (.aslAbs w) := of_cell descriptor_0E
theorem sloAbs : Statement (.sloAbs w) := of_cell descriptor_0F
theorem bpl : Statement (.bpl off) := of_cell descriptor_10
theorem oraIzy : Statement (.oraIzy ad) := of_cellPlus descriptor_11
theorem jam12 : Statement .jam12 := of_cellJam descriptor_12 rfl rfl
theorem sloIzy : Statement (.sloIzy ad) := of_cell descriptor_13
theorem nopZpx14 : Statement (.nopZpx14 ad) := of_cell descriptor_14
theorem oraZpx : Statement (.oraZpx ad) := of_cell descriptor_15
theorem aslZpx : Statement (.aslZpx ad) := of_cell descriptor_16
theorem sloZpx : Statement (.sloZpx ad) := of_cell descriptor_17
theorem clc : Statement .clc := of_cell descriptor_18
theorem oraAby : Statement (.oraAby w) := of_cellPlus descriptor_19
theorem nopImp1A : Statement .nopImp1A := of_cell descriptor_1A
theorem sloAby : Statement (.sloAby w) := of_cell descriptor_1B
theorem nopAbx1C : Statement (.nopAbx1C w) := of_cellPlus descriptor_1C
theorem oraAbx : Statement (.oraAbx w) := of_cellPlus descriptor_1D
theorem aslAbx : Statement (.aslAbx w) := of_cell descriptor_1E
theorem sloAbx : Statement (.sloAbx w) := of_cell descriptor_1F
theorem jsr : Statement (.jsr w) := of_cell descriptor_20
theorem andIzx : Statement (.andIzx ad) := of_cell descriptor_21
theorem jam22 : Statement .jam22 := of_cellJam descriptor_22 rfl rfl
theorem rlaIzx : Statement (.rlaIzx ad) := of_cell descriptor_23
theorem bitZp : Statement (.bitZp ad) := of_cell descriptor_24
theorem andZp : Statement (.andZp ad) := of_cell descriptor_25
theorem rolZp : Statement (.rolZp ad) := of_cell descriptor_26
theorem rlaZp : Statement (.rlaZp ad) := of_cell descriptor_27
theorem plp : Statement .plp := of_cell descriptor_28
theorem andImm : Statement (.andImm v) := of_cell descriptor_29
theorem rolAcc : Statement .rolAcc := of_cell descriptor_2A
theorem anc2B : Statement (.anc2B v) := of_cell descriptor_2B
theorem bitAbs : Statement (.bitAbs w) := of_cell descriptor_2C
theorem andAbs : Statement (.andAbs w) := of_cell descriptor_2D
theorem rolAbs : Statement (.rolAbs w) := of_cell descriptor_2E
theorem rlaAbs : Statement (.rlaAbs w) := of_cell descriptor_2F
theorem bmi : Statement (.bmi off) := of_cell descriptor_30
theorem andIzy : Statement (.andIzy ad) := of_cellPlus descriptor_31
theorem jam32 : Statement .jam32 := of_cellJam descriptor_32 rfl rfl
theorem rlaIzy : Statement (.rlaIzy ad) := of_cell descriptor_33
theorem nopZpx34 : Statement (.nopZpx34 ad) := of_cell descriptor_34
theorem andZpx : Statement (.andZpx ad) := of_cell descriptor_35
theorem rolZpx : Statement (.rolZpx ad) := of_cell descriptor_36
theorem rlaZpx : Statement (.rlaZpx ad) := of_cell descriptor_37
theorem sec : Statement .sec := of_cell descriptor_38
theorem andAby : Statement (.andAby w) := of_cellPlus descriptor_39
theorem nopImp3A : Statement .nopImp3A := of_cell descriptor_3A
theorem rlaAby : Statement (.rlaAby w) := of_cell descriptor_3B
theorem nopAbx3C : Statement (.nopAbx3C w) := of_cellPlus descriptor_3C
theorem andAbx : Statement (.andAbx w) := of_cellPlus descriptor_3D
theorem rolAbx : Statement (.rolAbx w) := of_cell descriptor_3E
theorem rlaAbx : Statement (.rlaAbx w) := of_cell descriptor_3F
theorem rti : Statement .rti := of_cell descriptor_40
theorem eorIzx : Statement (.eorIzx ad) := of_cell descriptor_41
theorem jam42 : Statement .jam42 := of_cellJam descriptor_42 rfl rfl
theorem sreIzx : Statement (.sreIzx ad) := of_cell descriptor_43
theorem nopZp44 : Statement (.nopZp44 ad) := of_cell descriptor_44
theorem eorZp : Statement (.eorZp ad) := of_cell descriptor_45
theorem lsrZp : Statement (.lsrZp ad) := of_cell descriptor_46
theorem sreZp : Statement (.sreZp ad) := of_cell descriptor_47
theorem pha : Statement .pha := of_cell descriptor_48
theorem eorImm : Statement (.eorImm v) := of_cell descriptor_49
theorem lsrAcc : Statement .lsrAcc := of_cell descriptor_4A
theorem alr : Statement (.alr v) := of_cell descriptor_4B
theorem jmpAbs : Statement (.jmpAbs w) := of_cell descriptor_4C
theorem eorAbs : Statement (.eorAbs w) := of_cell descriptor_4D
theorem lsrAbs : Statement (.lsrAbs w) := of_cell descriptor_4E
theorem sreAbs : Statement (.sreAbs w) := of_cell descriptor_4F
theorem bvc : Statement (.bvc off) := of_cell descriptor_50
theorem eorIzy : Statement (.eorIzy ad) := of_cellPlus descriptor_51
theorem jam52 : Statement .jam52 := of_cellJam descriptor_52 rfl rfl
theorem sreIzy : Statement (.sreIzy ad) := of_cell descriptor_53
theorem nopZpx54 : Statement (.nopZpx54 ad) := of_cell descriptor_54
theorem eorZpx : Statement (.eorZpx ad) := of_cell descriptor_55
theorem lsrZpx : Statement (.lsrZpx ad) := of_cell descriptor_56
theorem sreZpx : Statement (.sreZpx ad) := of_cell descriptor_57
theorem cli : Statement .cli := of_cell descriptor_58
theorem eorAby : Statement (.eorAby w) := of_cellPlus descriptor_59
theorem nopImp5A : Statement .nopImp5A := of_cell descriptor_5A
theorem sreAby : Statement (.sreAby w) := of_cell descriptor_5B
theorem nopAbx5C : Statement (.nopAbx5C w) := of_cellPlus descriptor_5C
theorem eorAbx : Statement (.eorAbx w) := of_cellPlus descriptor_5D
theorem lsrAbx : Statement (.lsrAbx w) := of_cell descriptor_5E
theorem sreAbx : Statement (.sreAbx w) := of_cell descriptor_5F
theorem rts : Statement .rts := of_cell descriptor_60
theorem adcIzx : Statement (.adcIzx ad) := of_cell descriptor_61
theorem jam62 : Statement .jam62 := of_cellJam descriptor_62 rfl rfl
theorem rraIzx : Statement (.rraIzx ad) := of_cell descriptor_63
theorem nopZp64 : Statement (.nopZp64 ad) := of_cell descriptor_64
theorem adcZp : Statement (.adcZp ad) := of_cell descriptor_65
theorem rorZp : Statement (.rorZp ad) := of_cell descriptor_66
theorem rraZp : Statement (.rraZp ad) := of_cell descriptor_67
theorem pla : Statement .pla := of_cell descriptor_68
theorem adcImm : Statement (.adcImm v) := of_cell descriptor_69
theorem rorAcc : Statement .rorAcc := of_cell descriptor_6A
theorem arr : Statement (.arr v) := of_cell descriptor_6B
theorem jmpInd : Statement (.jmpInd w) := of_cell descriptor_6C
theorem adcAbs : Statement (.adcAbs w) := of_cell descriptor_6D
theorem rorAbs : Statement (.rorAbs w) := of_cell descriptor_6E
theorem rraAbs : Statement (.rraAbs w) := of_cell descriptor_6F
theorem bvs : Statement (.bvs off) := of_cell descriptor_70
theorem adcIzy : Statement (.adcIzy ad) := of_cellPlus descriptor_71
theorem jam72 : Statement .jam72 := of_cellJam descriptor_72 rfl rfl
theorem rraIzy : Statement (.rraIzy ad) := of_cell descriptor_73
theorem nopZpx74 : Statement (.nopZpx74 ad) := of_cell descriptor_74
theorem adcZpx : Statement (.adcZpx ad) := of_cell descriptor_75
theorem rorZpx : Statement (.rorZpx ad) := of_cell descriptor_76
theorem rraZpx : Statement (.rraZpx ad) := of_cell descriptor_77
theorem sei : Statement .sei := of_cell descriptor_78
theorem adcAby : Statement (.adcAby w) := of_cellPlus descriptor_79
theorem nopImp7A : Statement .nopImp7A := of_cell descriptor_7A
theorem rraAby : Statement (.rraAby w) := of_cell descriptor_7B
theorem nopAbx7C : Statement (.nopAbx7C w) := of_cellPlus descriptor_7C
theorem adcAbx : Statement (.adcAbx w) := of_cellPlus descriptor_7D
theorem rorAbx : Statement (.rorAbx w) := of_cell descriptor_7E
theorem rraAbx : Statement (.rraAbx w) := of_cell descriptor_7F
theorem nopImm80 : Statement (.nopImm80 v) := of_cell descriptor_80
theorem staIzx : Statement (.staIzx ad) := of_cell descriptor_81
theorem nopImm82 : Statement (.nopImm82 v) := of_cell descriptor_82
theorem saxIzx : Statement (.saxIzx ad) := of_cell descriptor_83
theorem styZp : Statement (.styZp ad) := of_cell descriptor_84
theorem staZp : Statement (.staZp ad) := of_cell descriptor_85
theorem stxZp : Statement (.stxZp ad) := of_cell descriptor_86
theorem saxZp : Statement (.saxZp ad) := of_cell descriptor_87
theorem dey : Statement .dey := of_cell descriptor_88
theorem nopImm89 : Statement (.nopImm89 v) := of_cell descriptor_89
theorem txa : Statement .txa := of_cell descriptor_8A
theorem xaa : Statement (.xaa v) := of_cell descriptor_8B
theorem styAbs : Statement (.styAbs w) := of_cell descriptor_8C
theorem staAbs : Statement (.staAbs w) := of_cell descriptor_8D
theorem stxAbs : Statement (.stxAbs w) := of_cell descriptor_8E
theorem saxAbs : Statement (.saxAbs w) := of_cell descriptor_8F
theorem bcc : Statement (.bcc off) := of_cell descriptor_90
theorem staIzy : Statement (.staIzy ad) := of_cell descriptor_91
theorem jam92 : Statement .jam92 := of_cellJam descriptor_92 rfl rfl
theorem ahxIzy : Statement (.ahxIzy ad) := of_cell descriptor_93
theorem styZpx : Statement (.styZpx ad) := of_cell descriptor_94
theorem staZpx : Statement (.staZpx ad) := of_cell descriptor_95
theorem stxZpy : Statement (.stxZpy ad) := of_cell descriptor_96
theorem saxZpy : Statement (.saxZpy ad) := of_cell descriptor_97
theorem tya : Statement .tya := of_cell descriptor_98
theorem staAby : Statement (.staAby w) := of_cell descriptor_99
theorem txs : Statement .txs := of_cell descriptor_9A
theorem tas : Statement (.tas w) := of_cell descriptor_9B
theorem shy : Statement (.shy w) := of_cell descriptor_9C
theorem staAbx : Statement (.staAbx w) := of_cell descriptor_9D
theorem shx : Statement (.shx w) := of_cell descriptor_9E
theorem ahxAby : Statement (.ahxAby w) := of_cell descriptor_9F
theorem ldyImm : Statement (.ldyImm v) := of_cell descriptor_A0
theorem ldaIzx : Statement (.ldaIzx ad) := of_cell descriptor_A1
theorem ldxImm : Statement (.ldxImm v) := of_cell descriptor_A2
theorem laxIzx : Statement (.laxIzx ad) := of_cell descriptor_A3
theorem ldyZp : Statement (.ldyZp ad) := of_cell descriptor_A4
theorem ldaZp : Statement (.ldaZp ad) := of_cell descriptor_A5
theorem ldxZp : Statement (.ldxZp ad) := of_cell descriptor_A6
theorem laxZp : Statement (.laxZp ad) := of_cell descriptor_A7
theorem tay : Statement .tay := of_cell descriptor_A8
theorem ldaImm : Statement (.ldaImm v) := of_cell descriptor_A9
theorem tax : Statement .tax := of_cell descriptor_AA
theorem laxImm : Statement (.laxImm v) := of_cell descriptor_AB
theorem ldyAbs : Statement (.ldyAbs w) := of_cell descriptor_AC
theorem ldaAbs : Statement (.ldaAbs w) := of_cell descriptor_AD
theorem ldxAbs : Statement (.ldxAbs w) := of_cell descriptor_AE
theorem laxAbs : Statement (.laxAbs w) := of_cell descriptor_AF
theorem bcs : Statement (.bcs off) := of_cell descriptor_B0
theorem ldaIzy : Statement (.ldaIzy ad) := of_cellPlus descriptor_B1
theorem jamB2 : Statement .jamB2 := of_cellJam descriptor_B2 rfl rfl
theorem laxIzy : Statement (.laxIzy ad) := of_cellPlus descriptor_B3
theorem ldyZpx : Statement (.ldyZpx ad) := of_cell descriptor_B4
theorem ldaZpx : Statement (.ldaZpx ad) := of_cell descriptor_B5
theorem ldxZpy : Statement (.ldxZpy ad) := of_cell descriptor_B6
theorem laxZpy : Statement (.laxZpy ad) := of_cell descriptor_B7
theorem clv : Statement .clv := of_cell descriptor_B8
theorem ldaAby : Statement (.ldaAby w) := of_cellPlus descriptor_B9
theorem tsx : Statement .tsx := of_cell descriptor_BA
theorem las : Statement (.las w) := of_cellPlus descriptor_BB
theorem ldyAbx : Statement (.ldyAbx w) := of_cellPlus descriptor_BC
theorem ldaAbx : Statement (.ldaAbx w) := of_cellPlus descriptor_BD
theorem ldxAby : Statement (.ldxAby w) := of_cellPlus descriptor_BE
theorem laxAby : Statement (.laxAby w) := of_cellPlus descriptor_BF
theorem cpyImm : Statement (.cpyImm v) := of_cell descriptor_C0
theorem cmpIzx : Statement (.cmpIzx ad) := of_cell descriptor_C1
theorem nopImmC2 : Statement (.nopImmC2 v) := of_cell descriptor_C2
theorem dcpIzx : Statement (.dcpIzx ad) := of_cell descriptor_C3
theorem cpyZp : Statement (.cpyZp ad) := of_cell descriptor_C4
theorem cmpZp : Statement (.cmpZp ad) := of_cell descriptor_C5
theorem decZp : Statement (.decZp ad) := of_cell descriptor_C6
theorem dcpZp : Statement (.dcpZp ad) := of_cell descriptor_C7
theorem iny : Statement .iny := of_cell descriptor_C8
theorem cmpImm : Statement (.cmpImm v) := of_cell descriptor_C9
theorem dex : Statement .dex := of_cell descriptor_CA
theorem axs : Statement (.axs v) := of_cell descriptor_CB
theorem cpyAbs : Statement (.cpyAbs w) := of_cell descriptor_CC
theorem cmpAbs : Statement (.cmpAbs w) := of_cell descriptor_CD
theorem decAbs : Statement (.decAbs w) := of_cell descriptor_CE
theorem dcpAbs : Statement (.dcpAbs w) := of_cell descriptor_CF
theorem bne : Statement (.bne off) := of_cell descriptor_D0
theorem cmpIzy : Statement (.cmpIzy ad) := of_cellPlus descriptor_D1
theorem jamD2 : Statement .jamD2 := of_cellJam descriptor_D2 rfl rfl
theorem dcpIzy : Statement (.dcpIzy ad) := of_cell descriptor_D3
theorem nopZpxD4 : Statement (.nopZpxD4 ad) := of_cell descriptor_D4
theorem cmpZpx : Statement (.cmpZpx ad) := of_cell descriptor_D5
theorem decZpx : Statement (.decZpx ad) := of_cell descriptor_D6
theorem dcpZpx : Statement (.dcpZpx ad) := of_cell descriptor_D7
theorem cld : Statement .cld := of_cell descriptor_D8
theorem cmpAby : Statement (.cmpAby w) := of_cellPlus descriptor_D9
theorem nopImpDA : Statement .nopImpDA := of_cell descriptor_DA
theorem dcpAby : Statement (.dcpAby w) := of_cell descriptor_DB
theorem nopAbxDC : Statement (.nopAbxDC w) := of_cellPlus descriptor_DC
theorem cmpAbx : Statement (.cmpAbx w) := of_cellPlus descriptor_DD
theorem decAbx : Statement (.decAbx w) := of_cell descriptor_DE
theorem dcpAbx : Statement (.dcpAbx w) := of_cell descriptor_DF
theorem cpxImm : Statement (.cpxImm v) := of_cell descriptor_E0
theorem sbcIzx : Statement (.sbcIzx ad) := of_cell descriptor_E1
theorem nopImmE2 : Statement (.nopImmE2 v) := of_cell descriptor_E2
theorem iscIzx : Statement (.iscIzx ad) := of_cell descriptor_E3
theorem cpxZp : Statement (.cpxZp ad) := of_cell descriptor_E4
theorem sbcZp : Statement (.sbcZp ad) := of_cell descriptor_E5
theorem incZp : Statement (.incZp ad) := of_cell descriptor_E6
theorem iscZp : Statement (.iscZp ad) := of_cell descriptor_E7
theorem inx : Statement .inx := of_cell descriptor_E8
theorem sbcImm : Statement (.sbcImm v) := of_cell descriptor_E9
theorem nopImp : Statement .nopImp := of_cell descriptor_EA
theorem sbcImmEB : Statement (.sbcImmEB v) := of_cell descriptor_EB
theorem cpxAbs : Statement (.cpxAbs w) := of_cell descriptor_EC
theorem sbcAbs : Statement (.sbcAbs w) := of_cell descriptor_ED
theorem incAbs : Statement (.incAbs w) := of_cell descriptor_EE
theorem iscAbs : Statement (.iscAbs w) := of_cell descriptor_EF
theorem beq : Statement (.beq off) := of_cell descriptor_F0
theorem sbcIzy : Statement (.sbcIzy ad) := of_cellPlus descriptor_F1
theorem jamF2 : Statement .jamF2 := of_cellJam descriptor_F2 rfl rfl
theorem iscIzy : Statement (.iscIzy ad) := of_cell descriptor_F3
theorem nopZpxF4 : Statement (.nopZpxF4 ad) := of_cell descriptor_F4
theorem sbcZpx : Statement (.sbcZpx ad) := of_cell descriptor_F5
theorem incZpx : Statement (.incZpx ad) := of_cell descriptor_F6
theorem iscZpx : Statement (.iscZpx ad) := of_cell descriptor_F7
theorem sed : Statement .sed := of_cell descriptor_F8
theorem sbcAby : Statement (.sbcAby w) := of_cellPlus descriptor_F9
theorem nopImpFA : Statement .nopImpFA := of_cell descriptor_FA
theorem iscAby : Statement (.iscAby w) := of_cell descriptor_FB
theorem nopAbxFC : Statement (.nopAbxFC w) := of_cellPlus descriptor_FC
theorem sbcAbx : Statement (.sbcAbx w) := of_cellPlus descriptor_FD
theorem incAbx : Statement (.incAbx w) := of_cell descriptor_FE
theorem iscAbx : Statement (.iscAbx w) := of_cell descriptor_FF

end Sys2Proof.Laws.Encoding

namespace Sys2Proof

/-- An instruction takes as many bytes as its mode says (R91). -/
theorem encode_length (i : Instr) : (encode i).length = i.length := by
  unfold encode Instr.length
  cases i.operand with
  | memory m => cases m <;> rfl
  | _ => rfl

/-- The descriptor of an opcode byte is in the opcode map, so a form with its operation and mode is encodable (R95). -/
theorem encodable_of_descriptor {f : Form} (op : Byte) (ho : (descriptor op).operation = f.operation)
    (hm : (descriptor op).mode = f.operand.mode) : f.encodable = true := by
  simp only [Form.encodable, List.any_eq_true, Vector.mem_toList_iff, Bool.and_eq_true, beq_iff_eq]
  exact ⟨opcodeMap[rowOf op], Vector.getElem_mem _, descriptor op, Vector.getElem_mem _, ho, hm⟩

end Sys2Proof
end

