-- ==== Sys2Proof/Tests/Slice0.lean ====
section
/-! SUPPORT. Tests, their expected results from the spec (the vectors of 95_test_vectors.md by their names, or the rule in the
comment), and for every obligation with hypotheses a named witness that meets them. -/

namespace Sys2Proof.Tests

open Sys2Proof Sys2Proof.Machine

/-- The start state of the vectors of 95_test_vectors.md: the code and data in `mem`, SP = 0xFF, no flag set. -/
def start (pc : Word) (mem : Memory) : State :=
  { State.reset with
    pc := pc, sp := 0xFF#8, pollOk := true, mem := mem
    flags := { n := false, v := false, d := false, i := false, z := false, c := false } }

/-- Whether a step answers a next state that satisfies `p`. -/
def after (s : State) (p : State → Bool) : Bool :=
  match step s with
  | .next t => p t
  | .fault _ => false
  | .refused _ => false

/-- Whether a step is refused because decimal arithmetic is not supported. -/
def refusedDecimal (s : State) : Bool :=
  match step s with
  | .next _ => false
  | .fault _ => false
  | .refused r => r == .decimalUnsupported

/-! ## Well-formedness: each check refuses an ill-formed term -/

/-- STA #imm names no place to store to (R113). -/
theorem test_addressable_refuses_store_immediate : ({ operation := .sta, operand := .immediate 0 } : Form).addressable = false := by
  decide

/-- LDA with no operand reads nothing (R113, R402). -/
theorem test_addressable_refuses_read_implied : ({ operation := .lda, operand := .implied } : Form).addressable = false := by
  decide

/-- There is no LDX zp,X: LDX is indexed by Y (R95, R151). -/
theorem test_encodable_refuses_ldx_zpx : ({ operation := .ldx, operand := .memory (.zpx 0x10) } : Form).encodable = false := by
  decide

/-- There is no JSR (ind) (R95). -/
theorem test_wellFormed_refuses_jsr_indirect : ({ operation := .jsr, operand := .indirect 0x1234 } : Form).wellFormed = false := by
  decide

/-- LDX zp,Y is an instruction. -/
theorem test_wellFormed_accepts_ldx_zpy : ({ operation := .ldx, operand := .memory (.zpy 0x10) } : Form).wellFormed = true := by
  decide

/-- A branch reaches 128 bytes back and 127 forward from the next instruction, no further (R101). -/
theorem test_branchDisplacement_range :
    branchDisplacement 0x2000 0x2081 = some 0x7F ∧ branchDisplacement 0x2000 0x2082 = none ∧
      branchDisplacement 0x2000 0x1F82 = some 0x80 ∧ branchDisplacement 0x2000 0x1F81 = none := by
  decide

/-! ## Decoding: every opcode byte of R95, its operand bytes 5A or 34 12, as spec/opcode_table.json numbers the bits -/

theorem test_decode_row_0 : ∀ p ∈ ([
      (8, 0x00, .brk), (16, 0x5A01, .oraIzx 0x5A), (8, 0x02, .jam02), (16, 0x5A03, .sloIzx 0x5A),
      (16, 0x5A04, .nopZp04 0x5A), (16, 0x5A05, .oraZp 0x5A), (16, 0x5A06, .aslZp 0x5A), (16, 0x5A07, .sloZp 0x5A),
      (8, 0x08, .php), (16, 0x5A09, .oraImm 0x5A), (8, 0x0A, .aslAcc), (16, 0x5A0B, .anc0B 0x5A),
      (24, 0x12340C, .nopAbs 0x1234), (24, 0x12340D, .oraAbs 0x1234), (24, 0x12340E, .aslAbs 0x1234),
      (24, 0x12340F, .sloAbs 0x1234)] : List (Nat × Nat × Instr)),
    decodeTableWord p.1 p.2.1 = some p.2.2 := by
  decide

theorem test_decode_row_1 : ∀ p ∈ ([
      (16, 0x5A10, .bpl 0x5A), (16, 0x5A11, .oraIzy 0x5A), (8, 0x12, .jam12), (16, 0x5A13, .sloIzy 0x5A),
      (16, 0x5A14, .nopZpx14 0x5A), (16, 0x5A15, .oraZpx 0x5A), (16, 0x5A16, .aslZpx 0x5A), (16, 0x5A17, .sloZpx 0x5A),
      (8, 0x18, .clc), (24, 0x123419, .oraAby 0x1234), (8, 0x1A, .nopImp1A), (24, 0x12341B, .sloAby 0x1234),
      (24, 0x12341C, .nopAbx1C 0x1234), (24, 0x12341D, .oraAbx 0x1234), (24, 0x12341E, .aslAbx 0x1234),
      (24, 0x12341F, .sloAbx 0x1234)] : List (Nat × Nat × Instr)),
    decodeTableWord p.1 p.2.1 = some p.2.2 := by
  decide

theorem test_decode_row_2 : ∀ p ∈ ([
      (24, 0x123420, .jsr 0x1234), (16, 0x5A21, .andIzx 0x5A), (8, 0x22, .jam22), (16, 0x5A23, .rlaIzx 0x5A),
      (16, 0x5A24, .bitZp 0x5A), (16, 0x5A25, .andZp 0x5A), (16, 0x5A26, .rolZp 0x5A), (16, 0x5A27, .rlaZp 0x5A),
      (8, 0x28, .plp), (16, 0x5A29, .andImm 0x5A), (8, 0x2A, .rolAcc), (16, 0x5A2B, .anc2B 0x5A),
      (24, 0x12342C, .bitAbs 0x1234), (24, 0x12342D, .andAbs 0x1234), (24, 0x12342E, .rolAbs 0x1234),
      (24, 0x12342F, .rlaAbs 0x1234)] : List (Nat × Nat × Instr)),
    decodeTableWord p.1 p.2.1 = some p.2.2 := by
  decide

theorem test_decode_row_3 : ∀ p ∈ ([
      (16, 0x5A30, .bmi 0x5A), (16, 0x5A31, .andIzy 0x5A), (8, 0x32, .jam32), (16, 0x5A33, .rlaIzy 0x5A),
      (16, 0x5A34, .nopZpx34 0x5A), (16, 0x5A35, .andZpx 0x5A), (16, 0x5A36, .rolZpx 0x5A), (16, 0x5A37, .rlaZpx 0x5A),
      (8, 0x38, .sec), (24, 0x123439, .andAby 0x1234), (8, 0x3A, .nopImp3A), (24, 0x12343B, .rlaAby 0x1234),
      (24, 0x12343C, .nopAbx3C 0x1234), (24, 0x12343D, .andAbx 0x1234), (24, 0x12343E, .rolAbx 0x1234),
      (24, 0x12343F, .rlaAbx 0x1234)] : List (Nat × Nat × Instr)),
    decodeTableWord p.1 p.2.1 = some p.2.2 := by
  decide

theorem test_decode_row_4 : ∀ p ∈ ([
      (8, 0x40, .rti), (16, 0x5A41, .eorIzx 0x5A), (8, 0x42, .jam42), (16, 0x5A43, .sreIzx 0x5A),
      (16, 0x5A44, .nopZp44 0x5A), (16, 0x5A45, .eorZp 0x5A), (16, 0x5A46, .lsrZp 0x5A), (16, 0x5A47, .sreZp 0x5A),
      (8, 0x48, .pha), (16, 0x5A49, .eorImm 0x5A), (8, 0x4A, .lsrAcc), (16, 0x5A4B, .alr 0x5A),
      (24, 0x12344C, .jmpAbs 0x1234), (24, 0x12344D, .eorAbs 0x1234), (24, 0x12344E, .lsrAbs 0x1234),
      (24, 0x12344F, .sreAbs 0x1234)] : List (Nat × Nat × Instr)),
    decodeTableWord p.1 p.2.1 = some p.2.2 := by
  decide

theorem test_decode_row_5 : ∀ p ∈ ([
      (16, 0x5A50, .bvc 0x5A), (16, 0x5A51, .eorIzy 0x5A), (8, 0x52, .jam52), (16, 0x5A53, .sreIzy 0x5A),
      (16, 0x5A54, .nopZpx54 0x5A), (16, 0x5A55, .eorZpx 0x5A), (16, 0x5A56, .lsrZpx 0x5A), (16, 0x5A57, .sreZpx 0x5A),
      (8, 0x58, .cli), (24, 0x123459, .eorAby 0x1234), (8, 0x5A, .nopImp5A), (24, 0x12345B, .sreAby 0x1234),
      (24, 0x12345C, .nopAbx5C 0x1234), (24, 0x12345D, .eorAbx 0x1234), (24, 0x12345E, .lsrAbx 0x1234),
      (24, 0x12345F, .sreAbx 0x1234)] : List (Nat × Nat × Instr)),
    decodeTableWord p.1 p.2.1 = some p.2.2 := by
  decide

theorem test_decode_row_6 : ∀ p ∈ ([
      (8, 0x60, .rts), (16, 0x5A61, .adcIzx 0x5A), (8, 0x62, .jam62), (16, 0x5A63, .rraIzx 0x5A),
      (16, 0x5A64, .nopZp64 0x5A), (16, 0x5A65, .adcZp 0x5A), (16, 0x5A66, .rorZp 0x5A), (16, 0x5A67, .rraZp 0x5A),
      (8, 0x68, .pla), (16, 0x5A69, .adcImm 0x5A), (8, 0x6A, .rorAcc), (16, 0x5A6B, .arr 0x5A),
      (24, 0x12346C, .jmpInd 0x1234), (24, 0x12346D, .adcAbs 0x1234), (24, 0x12346E, .rorAbs 0x1234),
      (24, 0x12346F, .rraAbs 0x1234)] : List (Nat × Nat × Instr)),
    decodeTableWord p.1 p.2.1 = some p.2.2 := by
  decide

theorem test_decode_row_7 : ∀ p ∈ ([
      (16, 0x5A70, .bvs 0x5A), (16, 0x5A71, .adcIzy 0x5A), (8, 0x72, .jam72), (16, 0x5A73, .rraIzy 0x5A),
      (16, 0x5A74, .nopZpx74 0x5A), (16, 0x5A75, .adcZpx 0x5A), (16, 0x5A76, .rorZpx 0x5A), (16, 0x5A77, .rraZpx 0x5A),
      (8, 0x78, .sei), (24, 0x123479, .adcAby 0x1234), (8, 0x7A, .nopImp7A), (24, 0x12347B, .rraAby 0x1234),
      (24, 0x12347C, .nopAbx7C 0x1234), (24, 0x12347D, .adcAbx 0x1234), (24, 0x12347E, .rorAbx 0x1234),
      (24, 0x12347F, .rraAbx 0x1234)] : List (Nat × Nat × Instr)),
    decodeTableWord p.1 p.2.1 = some p.2.2 := by
  decide

theorem test_decode_row_8 : ∀ p ∈ ([
      (16, 0x5A80, .nopImm80 0x5A), (16, 0x5A81, .staIzx 0x5A), (16, 0x5A82, .nopImm82 0x5A), (16, 0x5A83, .saxIzx 0x5A),
      (16, 0x5A84, .styZp 0x5A), (16, 0x5A85, .staZp 0x5A), (16, 0x5A86, .stxZp 0x5A), (16, 0x5A87, .saxZp 0x5A),
      (8, 0x88, .dey), (16, 0x5A89, .nopImm89 0x5A), (8, 0x8A, .txa), (16, 0x5A8B, .xaa 0x5A),
      (24, 0x12348C, .styAbs 0x1234), (24, 0x12348D, .staAbs 0x1234), (24, 0x12348E, .stxAbs 0x1234),
      (24, 0x12348F, .saxAbs 0x1234)] : List (Nat × Nat × Instr)),
    decodeTableWord p.1 p.2.1 = some p.2.2 := by
  decide

theorem test_decode_row_9 : ∀ p ∈ ([
      (16, 0x5A90, .bcc 0x5A), (16, 0x5A91, .staIzy 0x5A), (8, 0x92, .jam92), (16, 0x5A93, .ahxIzy 0x5A),
      (16, 0x5A94, .styZpx 0x5A), (16, 0x5A95, .staZpx 0x5A), (16, 0x5A96, .stxZpy 0x5A), (16, 0x5A97, .saxZpy 0x5A),
      (8, 0x98, .tya), (24, 0x123499, .staAby 0x1234), (8, 0x9A, .txs), (24, 0x12349B, .tas 0x1234),
      (24, 0x12349C, .shy 0x1234), (24, 0x12349D, .staAbx 0x1234), (24, 0x12349E, .shx 0x1234),
      (24, 0x12349F, .ahxAby 0x1234)] : List (Nat × Nat × Instr)),
    decodeTableWord p.1 p.2.1 = some p.2.2 := by
  decide

theorem test_decode_row_A : ∀ p ∈ ([
      (16, 0x5AA0, .ldyImm 0x5A), (16, 0x5AA1, .ldaIzx 0x5A), (16, 0x5AA2, .ldxImm 0x5A), (16, 0x5AA3, .laxIzx 0x5A),
      (16, 0x5AA4, .ldyZp 0x5A), (16, 0x5AA5, .ldaZp 0x5A), (16, 0x5AA6, .ldxZp 0x5A), (16, 0x5AA7, .laxZp 0x5A),
      (8, 0xA8, .tay), (16, 0x5AA9, .ldaImm 0x5A), (8, 0xAA, .tax), (16, 0x5AAB, .laxImm 0x5A),
      (24, 0x1234AC, .ldyAbs 0x1234), (24, 0x1234AD, .ldaAbs 0x1234), (24, 0x1234AE, .ldxAbs 0x1234),
      (24, 0x1234AF, .laxAbs 0x1234)] : List (Nat × Nat × Instr)),
    decodeTableWord p.1 p.2.1 = some p.2.2 := by
  decide

theorem test_decode_row_B : ∀ p ∈ ([
      (16, 0x5AB0, .bcs 0x5A), (16, 0x5AB1, .ldaIzy 0x5A), (8, 0xB2, .jamB2), (16, 0x5AB3, .laxIzy 0x5A),
      (16, 0x5AB4, .ldyZpx 0x5A), (16, 0x5AB5, .ldaZpx 0x5A), (16, 0x5AB6, .ldxZpy 0x5A), (16, 0x5AB7, .laxZpy 0x5A),
      (8, 0xB8, .clv), (24, 0x1234B9, .ldaAby 0x1234), (8, 0xBA, .tsx), (24, 0x1234BB, .las 0x1234),
      (24, 0x1234BC, .ldyAbx 0x1234), (24, 0x1234BD, .ldaAbx 0x1234), (24, 0x1234BE, .ldxAby 0x1234),
      (24, 0x1234BF, .laxAby 0x1234)] : List (Nat × Nat × Instr)),
    decodeTableWord p.1 p.2.1 = some p.2.2 := by
  decide

theorem test_decode_row_C : ∀ p ∈ ([
      (16, 0x5AC0, .cpyImm 0x5A), (16, 0x5AC1, .cmpIzx 0x5A), (16, 0x5AC2, .nopImmC2 0x5A), (16, 0x5AC3, .dcpIzx 0x5A),
      (16, 0x5AC4, .cpyZp 0x5A), (16, 0x5AC5, .cmpZp 0x5A), (16, 0x5AC6, .decZp 0x5A), (16, 0x5AC7, .dcpZp 0x5A),
      (8, 0xC8, .iny), (16, 0x5AC9, .cmpImm 0x5A), (8, 0xCA, .dex), (16, 0x5ACB, .axs 0x5A),
      (24, 0x1234CC, .cpyAbs 0x1234), (24, 0x1234CD, .cmpAbs 0x1234), (24, 0x1234CE, .decAbs 0x1234),
      (24, 0x1234CF, .dcpAbs 0x1234)] : List (Nat × Nat × Instr)),
    decodeTableWord p.1 p.2.1 = some p.2.2 := by
  decide

theorem test_decode_row_D : ∀ p ∈ ([
      (16, 0x5AD0, .bne 0x5A), (16, 0x5AD1, .cmpIzy 0x5A), (8, 0xD2, .jamD2), (16, 0x5AD3, .dcpIzy 0x5A),
      (16, 0x5AD4, .nopZpxD4 0x5A), (16, 0x5AD5, .cmpZpx 0x5A), (16, 0x5AD6, .decZpx 0x5A), (16, 0x5AD7, .dcpZpx 0x5A),
      (8, 0xD8, .cld), (24, 0x1234D9, .cmpAby 0x1234), (8, 0xDA, .nopImpDA), (24, 0x1234DB, .dcpAby 0x1234),
      (24, 0x1234DC, .nopAbxDC 0x1234), (24, 0x1234DD, .cmpAbx 0x1234), (24, 0x1234DE, .decAbx 0x1234),
      (24, 0x1234DF, .dcpAbx 0x1234)] : List (Nat × Nat × Instr)),
    decodeTableWord p.1 p.2.1 = some p.2.2 := by
  decide

theorem test_decode_row_E : ∀ p ∈ ([
      (16, 0x5AE0, .cpxImm 0x5A), (16, 0x5AE1, .sbcIzx 0x5A), (16, 0x5AE2, .nopImmE2 0x5A), (16, 0x5AE3, .iscIzx 0x5A),
      (16, 0x5AE4, .cpxZp 0x5A), (16, 0x5AE5, .sbcZp 0x5A), (16, 0x5AE6, .incZp 0x5A), (16, 0x5AE7, .iscZp 0x5A),
      (8, 0xE8, .inx), (16, 0x5AE9, .sbcImm 0x5A), (8, 0xEA, .nopImp), (16, 0x5AEB, .sbcImmEB 0x5A),
      (24, 0x1234EC, .cpxAbs 0x1234), (24, 0x1234ED, .sbcAbs 0x1234), (24, 0x1234EE, .incAbs 0x1234),
      (24, 0x1234EF, .iscAbs 0x1234)] : List (Nat × Nat × Instr)),
    decodeTableWord p.1 p.2.1 = some p.2.2 := by
  decide

theorem test_decode_row_F : ∀ p ∈ ([
      (16, 0x5AF0, .beq 0x5A), (16, 0x5AF1, .sbcIzy 0x5A), (8, 0xF2, .jamF2), (16, 0x5AF3, .iscIzy 0x5A),
      (16, 0x5AF4, .nopZpxF4 0x5A), (16, 0x5AF5, .sbcZpx 0x5A), (16, 0x5AF6, .incZpx 0x5A), (16, 0x5AF7, .iscZpx 0x5A),
      (8, 0xF8, .sed), (24, 0x1234F9, .sbcAby 0x1234), (8, 0xFA, .nopImpFA), (24, 0x1234FB, .iscAby 0x1234),
      (24, 0x1234FC, .nopAbxFC 0x1234), (24, 0x1234FD, .sbcAbx 0x1234), (24, 0x1234FE, .incAbx 0x1234),
      (24, 0x1234FF, .iscAbx 0x1234)] : List (Nat × Nat × Instr)),
    decodeTableWord p.1 p.2.1 = some p.2.2 := by
  decide

/-- Bits above the row's bits count as zero (the operand of 0xA9 given 8 bits). -/
theorem test_decode_bits_above_are_zero : decodeTableWord 8 0x42A9 = some (.ldaImm 0) := by decide

/-- An operand byte that is missing is a truncation, named (R90). -/
theorem test_decode_truncated :
    (match decode [0xAD, 0x34] with | .error e => e == .truncated 0xAD | .ok _ => false) = true := by decide

/-- No byte is no instruction (R90). -/
theorem test_decode_empty : (match decode [] with | .error e => e == .noOpcode | .ok _ => false) = true := by decide

/-! ## Running the instruction placed by withFetchWord -/

theorem test_withFetchWord_runs : after (State.reset.withFetchWord 16 0x42A9) (fun t => t.a == 0x42) = true := by decide

/-- It runs also on a halted core with a reset queued and an interrupt asserted. -/
theorem test_withFetchWord_runs_when_halted :
    after (({ State.reset with
        halted := true, pollOk := true, iPoll := false, irqLine := true, host := [.reset, .levels true true] } :
      State).withFetchWord 24 0x123420) (fun t => t.pc == 0x1234 && t.event == .instruction 0x20) = true := by
  decide

/-- A trap is taken as a next state: BRK goes through the vector of the empty memory (R263). -/
theorem test_withFetchWord_brk :
    after (State.reset.withFetchWord 8 0x00) (fun t => t.event == .brk && t.sp == 0xFA && t.cycles == 7) = true := by
  decide

/-! ## Steps: vectors of 95_test_vectors.md -/

/-- VA2: zpx wraps in page 0. -/
theorem test_VA2 : after
    { start 0x0200 [(0x0000, 0x99), (0x0100, 0x11), (0x0200, 0xB5), (0x0201, 0xFF)] with x := 0x01 } (fun t =>
      t.a == 0x99 && t.pc == 0x0202 && t.statusByte == 0xA0 && t.cycles == 4) = true := by
  decide

/-- VA3: zpy wraps (LDX). -/
theorem test_VA3 : after
    { start 0x0200 [(0x0010, 0x7E), (0x0200, 0xB6), (0x0201, 0xF0)] with y := 0x20 } (fun t =>
      t.x == 0x7E && t.pc == 0x0202 && t.statusByte == 0x20 && t.cycles == 4) = true := by
  decide

/-- VA6: abx cross: dummy at unfixed. -/
theorem test_VA6 : after
    { start 0x0200 [(0x0200, 0xBD), (0x0201, 0xF0), (0x0202, 0x20), (0x2010, 0xEE), (0x2110, 0x66)] with x := 0x20 } (fun t =>
      t.a == 0x66 && t.pc == 0x0203 && t.statusByte == 0x20 && t.cycles == 5) = true := by
  decide

/-- VA7: abx wrap at top of memory. -/
theorem test_VA7 : after
    { start 0x0200 [(0x0010, 0x77), (0x0200, 0xBD), (0x0201, 0xF0), (0x0202, 0xFF)] with x := 0x20 } (fun t =>
      t.a == 0x77 && t.pc == 0x0203 && t.statusByte == 0x20 && t.cycles == 5) = true := by
  decide

/-- VA8: aby store always 5 cycles. -/
theorem test_VA8 : after
    { start 0x0200 [(0x0200, 0x99), (0x0202, 0x20)] with a := 0x42, y := 0x01 } (fun t =>
      t.pc == 0x0203 && t.statusByte == 0x20 && t.peek 0x2001 == 0x42 && t.cycles == 5) = true := by
  decide

/-- VA9: izx, pointer wraps at FF. -/
theorem test_VA9 : after
    { start 0x0200 [(0x0000, 0x30), (0x0100, 0x40), (0x0200, 0xA1), (0x0201, 0xFE), (0x3000, 0xAB)] with x := 0x01 } (fun t =>
      t.a == 0xAB && t.pc == 0x0202 && t.statusByte == 0xA0 && t.cycles == 6) = true := by
  decide

/-- VA11: izy cross. -/
theorem test_VA11 : after
    { start 0x0200 [(0x0040, 0xF0), (0x0041, 0x30), (0x0200, 0xB1), (0x0201, 0x40), (0x3110, 0x5B)] with y := 0x20 } (fun t =>
      t.a == 0x5B && t.pc == 0x0202 && t.statusByte == 0x20 && t.cycles == 6) = true := by
  decide

/-- VA12: izy pointer at FF wraps. -/
theorem test_VA12 : after
    (start 0x0200 [(0x0000, 0x31), (0x0200, 0xB1), (0x0201, 0xFF), (0x3100, 0xC3)]) (fun t =>
      t.a == 0xC3 && t.pc == 0x0202 && t.statusByte == 0xA0 && t.cycles == 5) = true := by
  decide

/-- VA13: izy store always 6. -/
theorem test_VA13 : after
    { start 0x0200 [(0x0041, 0x30), (0x0200, 0x91), (0x0201, 0x40)] with a := 0x01, y := 0x01 } (fun t =>
      t.pc == 0x0202 && t.statusByte == 0x20 && t.peek 0x3001 == 0x01 && t.cycles == 6) = true := by
  decide

/-- VA14: abx RMW always 7. -/
theorem test_VA14 : after
    { start 0x0200 [(0x0200, 0xFE), (0x0202, 0x20), (0x2001, 0x7F)] with x := 0x01 } (fun t =>
      t.pc == 0x0203 && t.statusByte == 0xA0 && t.peek 0x2001 == 0x80 && t.cycles == 7) = true := by
  decide

/-- VL1: LDA #0. -/
theorem test_VL1 : after
    { start 0x0200 [(0x0200, 0xA9)] with a := 0x55 } (fun t =>
      t.a == 0x00 && t.pc == 0x0202 && t.statusByte == 0x22 && t.cycles == 2) = true := by
  decide

/-- VL3: LDX #FF. -/
theorem test_VL3 : after
    (start 0x0200 [(0x0200, 0xA2), (0x0201, 0xFF)]) (fun t =>
      t.x == 0xFF && t.pc == 0x0202 && t.statusByte == 0xA0 && t.cycles == 2) = true := by
  decide

/-- VL4: LDY #7F. -/
theorem test_VL4 : after
    (start 0x0200 [(0x0200, 0xA0), (0x0201, 0x7F)]) (fun t =>
      t.y == 0x7F && t.pc == 0x0202 && t.statusByte == 0x20 && t.cycles == 2) = true := by
  decide

/-- VL5: STA abs, flags untouched. -/
theorem test_VL5 : after
    { start 0x0200 [(0x0200, 0x8D), (0x0202, 0x20)] with flags := ⟨true, false, false, false, false, false⟩ } (fun t =>
      t.pc == 0x0203 && t.statusByte == 0xA0 && t.peek 0x2000 == 0x00 && t.cycles == 4) = true := by
  decide

/-- VL6: STX zpy wraps. -/
theorem test_VL6 : after
    { start 0x0200 [(0x0200, 0x96), (0x0201, 0x01)] with x := 0x01, y := 0xFF } (fun t =>
      t.pc == 0x0202 && t.statusByte == 0x20 && t.peek 0x0000 == 0x01 && t.cycles == 4) = true := by
  decide

/-- VL7: STY zp. -/
theorem test_VL7 : after
    { start 0x0200 [(0x0200, 0x84), (0x0201, 0x80)] with y := 0x10 } (fun t =>
      t.pc == 0x0202 && t.statusByte == 0x20 && t.peek 0x0080 == 0x10 && t.cycles == 3) = true := by
  decide

/-- VL8: TAX zero. -/
theorem test_VL8 : after
    { start 0x0200 [(0x0200, 0xAA)] with x := 0x12 } (fun t =>
      t.x == 0x00 && t.pc == 0x0201 && t.statusByte == 0x22 && t.cycles == 2) = true := by
  decide

/-- VL9: TAY neg. -/
theorem test_VL9 : after
    { start 0x0200 [(0x0200, 0xA8)] with a := 0x90 } (fun t =>
      t.y == 0x90 && t.pc == 0x0201 && t.statusByte == 0xA0 && t.cycles == 2) = true := by
  decide

/-- VL10: TXA. -/
theorem test_VL10 : after
    { start 0x0200 [(0x0200, 0x8A)] with x := 0x05 } (fun t =>
      t.a == 0x05 && t.pc == 0x0201 && t.statusByte == 0x20 && t.cycles == 2) = true := by
  decide

/-- VL11: TYA. -/
theorem test_VL11 : after
    { start 0x0200 [(0x0200, 0x98)] with y := 0xFF } (fun t =>
      t.a == 0xFF && t.pc == 0x0201 && t.statusByte == 0xA0 && t.cycles == 2) = true := by
  decide

/-- VL12: TSX. -/
theorem test_VL12 : after
    { start 0x0200 [(0x0200, 0xBA)] with sp := 0xFD } (fun t =>
      t.x == 0xFD && t.pc == 0x0201 && t.statusByte == 0xA0 && t.cycles == 2) = true := by
  decide

/-- VL13: TXS sets no flag. -/
theorem test_VL13 : after
    { start 0x0200 [(0x0200, 0x9A)] with flags := ⟨true, false, false, false, false, false⟩ } (fun t =>
      t.sp == 0x00 && t.pc == 0x0201 && t.statusByte == 0xA0 && t.cycles == 2) = true := by
  decide

/-- VL15: PHA at SP=00 wraps. -/
theorem test_VL15 : after
    { start 0x0200 [(0x0200, 0x48)] with a := 0x44, sp := 0x00 } (fun t =>
      t.sp == 0xFF && t.pc == 0x0201 && t.statusByte == 0x20 && t.peek 0x0100 == 0x44 && t.cycles == 3) = true := by
  decide

/-- VL16: PHP pushes B=1,U=1. -/
theorem test_VL16 : after
    { start 0x0200 [(0x0200, 0x08)] with flags := ⟨false, false, false, false, false, true⟩ } (fun t =>
      t.sp == 0xFE && t.pc == 0x0201 && t.statusByte == 0x21 && t.peek 0x01FF == 0x31 && t.cycles == 3) = true := by
  decide

/-- VL18: PLA at SP=FF wraps. -/
theorem test_VL18 : after
    (start 0x0200 [(0x0100, 0x80), (0x0200, 0x68)]) (fun t =>
      t.a == 0x80 && t.sp == 0x00 && t.pc == 0x0201 && t.statusByte == 0xA0 && t.cycles == 4) = true := by
  decide

/-- VL19: PLP FF (B, U dropped). -/
theorem test_VL19 : after
    { start 0x0200 [(0x01FF, 0xFF), (0x0200, 0x28)] with sp := 0xFE } (fun t =>
      t.sp == 0xFF && t.pc == 0x0201 && t.statusByte == 0xEF && t.cycles == 4) = true := by
  decide

/-- VL20: PLP 30 clears flags. -/
theorem test_VL20 : after
    { start 0x0200 [(0x01FF, 0x30), (0x0200, 0x28)] with sp := 0xFE, flags := ⟨true, false, false, true, false, true⟩ } (fun t =>
      t.sp == 0xFF && t.pc == 0x0201 && t.statusByte == 0x20 && t.cycles == 4) = true := by
  decide

/-- VR1: ADC #01 C=0. -/
theorem test_VR1 : after
    { start 0x0200 [(0x0200, 0x69), (0x0201, 0x01)] with a := 0x7F } (fun t =>
      t.a == 0x80 && t.pc == 0x0202 && t.statusByte == 0xE0 && t.cycles == 2) = true := by
  decide

/-- VR2: ADC #00 C=1. -/
theorem test_VR2 : after
    { start 0x0200 [(0x0200, 0x69)] with a := 0xFF, flags := ⟨false, false, false, false, false, true⟩ } (fun t =>
      t.a == 0x00 && t.pc == 0x0202 && t.statusByte == 0x23 && t.cycles == 2) = true := by
  decide

/-- VR9: SBC #01 C=1. -/
theorem test_VR9 : after
    { start 0x0200 [(0x0200, 0xE9), (0x0201, 0x01)] with flags := ⟨false, false, false, false, false, true⟩ } (fun t =>
      t.a == 0xFF && t.pc == 0x0202 && t.statusByte == 0xA0 && t.cycles == 2) = true := by
  decide

/-- VR11: SBC #B0 C=1. -/
theorem test_VR11 : after
    { start 0x0200 [(0x0200, 0xE9), (0x0201, 0xB0)] with a := 0x50, flags := ⟨false, false, false, false, false, true⟩ } (fun t =>
      t.a == 0xA0 && t.pc == 0x0202 && t.statusByte == 0xE0 && t.cycles == 2) = true := by
  decide

/-- VD1: ADC #46 C=1. -/
theorem test_VD1 : after
    { start 0x0200 [(0x0200, 0x69), (0x0201, 0x46)] with a := 0x58, flags := ⟨false, false, true, false, false, true⟩ } (fun t =>
      t.a == 0x05 && t.pc == 0x0202 && t.statusByte == 0xE9 && t.cycles == 2) = true := by
  decide

/-- VD8: ADC #01 C=0. -/
theorem test_VD8 : after
    { start 0x0200 [(0x0200, 0x69), (0x0201, 0x01)] with a := 0x0F, flags := ⟨false, false, true, false, false, false⟩ } (fun t =>
      t.a == 0x16 && t.pc == 0x0202 && t.statusByte == 0x28 && t.cycles == 2) = true := by
  decide

/-- VD12: SBC #02 C=0. -/
theorem test_VD12 : after
    { start 0x0200 [(0x0200, 0xE9), (0x0201, 0x02)] with a := 0x32, flags := ⟨false, false, true, false, false, false⟩ } (fun t =>
      t.a == 0x29 && t.pc == 0x0202 && t.statusByte == 0x29 && t.cycles == 2) = true := by
  decide

/-- VD14: SBC #01 C=1. -/
theorem test_VD14 : after
    { start 0x0200 [(0x0200, 0xE9), (0x0201, 0x01)] with flags := ⟨false, false, true, false, false, true⟩ } (fun t =>
      t.a == 0x99 && t.pc == 0x0202 && t.statusByte == 0xA8 && t.cycles == 2) = true := by
  decide

/-- VG1: AND #3C. -/
theorem test_VG1 : after
    { start 0x0200 [(0x0200, 0x29), (0x0201, 0x3C)] with a := 0xF0 } (fun t =>
      t.a == 0x30 && t.pc == 0x0202 && t.statusByte == 0x20 && t.cycles == 2) = true := by
  decide

/-- VG3: ORA #80. -/
theorem test_VG3 : after
    { start 0x0200 [(0x0200, 0x09), (0x0201, 0x80)] with a := 0x0F } (fun t =>
      t.a == 0x8F && t.pc == 0x0202 && t.statusByte == 0xA0 && t.cycles == 2) = true := by
  decide

/-- VG4: EOR #FF. -/
theorem test_VG4 : after
    { start 0x0200 [(0x0200, 0x49), (0x0201, 0xFF)] with a := 0xFF } (fun t =>
      t.a == 0x00 && t.pc == 0x0202 && t.statusByte == 0x22 && t.cycles == 2) = true := by
  decide

/-- VG6: BIT zp, N V from M. -/
theorem test_VG6 : after
    { start 0x0200 [(0x0010, 0xC0), (0x0200, 0x24), (0x0201, 0x10)] with a := 0x01 } (fun t =>
      t.pc == 0x0202 && t.statusByte == 0xE2 && t.cycles == 3) = true := by
  decide

/-- VG8: CMP equal. -/
theorem test_VG8 : after
    { start 0x0200 [(0x0200, 0xC9), (0x0201, 0x10)] with a := 0x10 } (fun t =>
      t.pc == 0x0202 && t.statusByte == 0x23 && t.cycles == 2) = true := by
  decide

/-- VG9: CMP less. -/
theorem test_VG9 : after
    (start 0x0200 [(0x0200, 0xC9), (0x0201, 0x01)]) (fun t =>
      t.pc == 0x0202 && t.statusByte == 0xA0 && t.cycles == 2) = true := by
  decide

/-- VG12: CPX less. -/
theorem test_VG12 : after
    { start 0x0200 [(0x0200, 0xE0), (0x0201, 0x06)] with x := 0x05 } (fun t =>
      t.pc == 0x0202 && t.statusByte == 0xA0 && t.cycles == 2) = true := by
  decide

/-- VG13: CPY equal FF. -/
theorem test_VG13 : after
    { start 0x0200 [(0x0200, 0xC0), (0x0201, 0xFF)] with y := 0xFF } (fun t =>
      t.pc == 0x0202 && t.statusByte == 0x23 && t.cycles == 2) = true := by
  decide

/-- VS2: INC FF wraps, C kept. -/
theorem test_VS2 : after
    { start 0x0200 [(0x0010, 0xFF), (0x0200, 0xE6), (0x0201, 0x10)] with flags := ⟨false, false, false, false, false, true⟩ } (fun t =>
      t.pc == 0x0202 && t.statusByte == 0x23 && t.peek 0x0010 == 0x00 && t.cycles == 5) = true := by
  decide

/-- VS3: DEC abs 00. -/
theorem test_VS3 : after
    (start 0x0200 [(0x0200, 0xCE), (0x0202, 0x20)]) (fun t =>
      t.pc == 0x0203 && t.statusByte == 0xA0 && t.peek 0x2000 == 0xFF && t.cycles == 6) = true := by
  decide

/-- VS5: INX FF. -/
theorem test_VS5 : after
    { start 0x0200 [(0x0200, 0xE8)] with x := 0xFF } (fun t =>
      t.x == 0x00 && t.pc == 0x0201 && t.statusByte == 0x22 && t.cycles == 2) = true := by
  decide

/-- VS6: INY. -/
theorem test_VS6 : after
    { start 0x0200 [(0x0200, 0xC8)] with y := 0x7F } (fun t =>
      t.y == 0x80 && t.pc == 0x0201 && t.statusByte == 0xA0 && t.cycles == 2) = true := by
  decide

/-- VS7: DEX 00. -/
theorem test_VS7 : after
    (start 0x0200 [(0x0200, 0xCA)]) (fun t =>
      t.x == 0xFF && t.pc == 0x0201 && t.statusByte == 0xA0 && t.cycles == 2) = true := by
  decide

/-- VS8: DEY 80. -/
theorem test_VS8 : after
    { start 0x0200 [(0x0200, 0x88)] with y := 0x80 } (fun t =>
      t.y == 0x7F && t.pc == 0x0201 && t.statusByte == 0x20 && t.cycles == 2) = true := by
  decide

/-- VS9: ASL A 81. -/
theorem test_VS9 : after
    { start 0x0200 [(0x0200, 0x0A)] with a := 0x81 } (fun t =>
      t.a == 0x02 && t.pc == 0x0201 && t.statusByte == 0x21 && t.cycles == 2) = true := by
  decide

/-- VS11: ASL zp 40. -/
theorem test_VS11 : after
    (start 0x0200 [(0x0010, 0x40), (0x0200, 0x06), (0x0201, 0x10)]) (fun t =>
      t.pc == 0x0202 && t.statusByte == 0xA0 && t.peek 0x0010 == 0x80 && t.cycles == 5) = true := by
  decide

/-- VS13: LSR A 01. -/
theorem test_VS13 : after
    { start 0x0200 [(0x0200, 0x4A)] with a := 0x01 } (fun t =>
      t.a == 0x00 && t.pc == 0x0201 && t.statusByte == 0x23 && t.cycles == 2) = true := by
  decide

/-- VS14: ROL A 40 C=1. -/
theorem test_VS14 : after
    { start 0x0200 [(0x0200, 0x2A)] with a := 0x40, flags := ⟨false, false, false, false, false, true⟩ } (fun t =>
      t.a == 0x81 && t.pc == 0x0201 && t.statusByte == 0xA0 && t.cycles == 2) = true := by
  decide

/-- VS17: ROR zp 02 C=1. -/
theorem test_VS17 : after
    { start 0x0200 [(0x0080, 0x02), (0x0200, 0x66), (0x0201, 0x80)] with flags := ⟨false, false, false, false, false, true⟩ } (fun t =>
      t.pc == 0x0202 && t.statusByte == 0xA0 && t.peek 0x0080 == 0x81 && t.cycles == 5) = true := by
  decide

/-- VS18: ROL abx 7 cycles. -/
theorem test_VS18 : after
    { start 0x0200 [(0x0200, 0x3E), (0x0201, 0xFF), (0x0202, 0x20), (0x2100, 0x80)] with x := 0x01, flags := ⟨false, false, false, false, false, true⟩ } (fun t =>
      t.pc == 0x0203 && t.statusByte == 0x21 && t.peek 0x2100 == 0x01 && t.cycles == 7) = true := by
  decide

/-- VC1: JMP abs. -/
theorem test_VC1 : after
    (start 0x0200 [(0x0200, 0x4C), (0x0201, 0x34), (0x0202, 0x12)]) (fun t =>
      t.pc == 0x1234 && t.statusByte == 0x20 && t.cycles == 3) = true := by
  decide

/-- VC3: JMP ind page bug. -/
theorem test_VC3 : after
    (start 0x0200 [(0x0200, 0x6C), (0x0201, 0xFF), (0x0202, 0x30), (0x3000, 0x50), (0x30FF, 0x80), (0x3100, 0x40)]) (fun t =>
      t.pc == 0x5080 && t.statusByte == 0x20 && t.cycles == 5) = true := by
  decide

/-- VC4: JSR. -/
theorem test_VC4 : after
    (start 0x1000 [(0x1000, 0x20), (0x1002, 0x40)]) (fun t =>
      t.sp == 0xFD && t.pc == 0x4000 && t.statusByte == 0x20 && t.peek 0x01FF == 0x10 && t.peek 0x01FE == 0x02 &&
      t.cycles == 6) = true := by
  decide

/-- VC6: RTS from FFFF wraps. -/
theorem test_VC6 : after
    { start 0x4000 [(0x01FE, 0xFF), (0x01FF, 0xFF), (0x4000, 0x60)] with sp := 0xFD } (fun t =>
      t.sp == 0xFF && t.pc == 0x0000 && t.statusByte == 0x20 && t.cycles == 6) = true := by
  decide

/-- VC7: BPL taken. -/
theorem test_VC7 : after
    (start 0x2000 [(0x2000, 0x10), (0x2001, 0x10)]) (fun t =>
      t.pc == 0x2012 && t.statusByte == 0x20 && t.cycles == 3) = true := by
  decide

/-- VC8: BMI not taken. -/
theorem test_VC8 : after
    (start 0x2000 [(0x2000, 0x30), (0x2001, 0x10)]) (fun t =>
      t.pc == 0x2002 && t.statusByte == 0x20 && t.cycles == 2) = true := by
  decide

/-- VC9: BVC taken backward. -/
theorem test_VC9 : after
    (start 0x2010 [(0x2010, 0x50), (0x2011, 0xFC)]) (fun t =>
      t.pc == 0x200E && t.statusByte == 0x20 && t.cycles == 3) = true := by
  decide

/-- VC10: BVS taken. -/
theorem test_VC10 : after
    { start 0x3000 [(0x3000, 0x70), (0x3001, 0x02)] with flags := ⟨false, true, false, false, false, false⟩ } (fun t =>
      t.pc == 0x3004 && t.statusByte == 0x60 && t.cycles == 3) = true := by
  decide

/-- VC11: BCC not taken. -/
theorem test_VC11 : after
    { start 0x2000 [(0x2000, 0x90), (0x2001, 0x10)] with flags := ⟨false, false, false, false, false, true⟩ } (fun t =>
      t.pc == 0x2002 && t.statusByte == 0x21 && t.cycles == 2) = true := by
  decide

/-- VC12: BCS taken, page cross. -/
theorem test_VC12 : after
    { start 0x20FC [(0x20FC, 0xB0), (0x20FD, 0x04)] with flags := ⟨false, false, false, false, false, true⟩ } (fun t =>
      t.pc == 0x2102 && t.statusByte == 0x21 && t.cycles == 4) = true := by
  decide

/-- VC13: BNE taken backward cross. -/
theorem test_VC13 : after
    (start 0x2100 [(0x2100, 0xD0), (0x2101, 0xF0)]) (fun t =>
      t.pc == 0x20F2 && t.statusByte == 0x20 && t.cycles == 4) = true := by
  decide

/-- VC14: BEQ disp 0. -/
theorem test_VC14 : after
    { start 0x0300 [(0x0300, 0xF0)] with flags := ⟨false, false, false, false, true, false⟩ } (fun t =>
      t.pc == 0x0302 && t.statusByte == 0x22 && t.cycles == 3) = true := by
  decide

/-- VC17: BRK keeps D, sets I. -/
theorem test_VC17 : after
    { start 0x0400 [(0xFFFF, 0x90)] with flags := ⟨false, false, true, false, false, true⟩ } (fun t =>
      t.sp == 0xFC && t.pc == 0x9000 && t.statusByte == 0x2D && t.peek 0x01FF == 0x04 && t.peek 0x01FE == 0x02 &&
      t.peek 0x01FD == 0x39 && t.cycles == 7) = true := by
  decide

/-- VC18: RTI. -/
theorem test_VC18 : after
    { start 0x9000 [(0x01FD, 0xF3), (0x01FE, 0x02), (0x01FF, 0x04), (0x9000, 0x40)] with sp := 0xFC, flags := ⟨false, false, false, true, false, false⟩ } (fun t =>
      t.sp == 0xFF && t.pc == 0x0402 && t.statusByte == 0xE3 && t.cycles == 6) = true := by
  decide

/-- VF1: CLC. -/
theorem test_VF1 : after
    { start 0x0200 [(0x0200, 0x18)] with flags := ⟨true, false, false, false, false, true⟩ } (fun t =>
      t.pc == 0x0201 && t.statusByte == 0xA0 && t.cycles == 2) = true := by
  decide

/-- VF2: SEC. -/
theorem test_VF2 : after
    (start 0x0200 [(0x0200, 0x38)]) (fun t =>
      t.pc == 0x0201 && t.statusByte == 0x21 && t.cycles == 2) = true := by
  decide

/-- VF3: CLI. -/
theorem test_VF3 : after
    { start 0x0200 [(0x0200, 0x58)] with flags := ⟨false, false, false, true, false, false⟩ } (fun t =>
      t.pc == 0x0201 && t.statusByte == 0x20 && t.cycles == 2) = true := by
  decide

/-- VF4: SEI. -/
theorem test_VF4 : after
    (start 0x0200 [(0x0200, 0x78)]) (fun t =>
      t.pc == 0x0201 && t.statusByte == 0x24 && t.cycles == 2) = true := by
  decide

/-- VF5: CLD. -/
theorem test_VF5 : after
    { start 0x0200 [(0x0200, 0xD8)] with flags := ⟨false, false, true, false, false, false⟩ } (fun t =>
      t.pc == 0x0201 && t.statusByte == 0x20 && t.cycles == 2) = true := by
  decide

/-- VF6: SED. -/
theorem test_VF6 : after
    (start 0x0200 [(0x0200, 0xF8)]) (fun t =>
      t.pc == 0x0201 && t.statusByte == 0x28 && t.cycles == 2) = true := by
  decide

/-- VF7: CLV. -/
theorem test_VF7 : after
    { start 0x0200 [(0x0200, 0xB8)] with flags := ⟨false, true, false, false, false, false⟩ } (fun t =>
      t.pc == 0x0201 && t.statusByte == 0x20 && t.cycles == 2) = true := by
  decide

/-- VF8: NOP EA. -/
theorem test_VF8 : after
    (start 0x0200 [(0x0200, 0xEA)]) (fun t =>
      t.pc == 0x0201 && t.statusByte == 0x20 && t.cycles == 2) = true := by
  decide

/-- VF14: NOP abx cross 1C. -/
theorem test_VF14 : after
    { start 0x0200 [(0x0200, 0x1C), (0x0201, 0xFF), (0x0202, 0x20)] with x := 0x01 } (fun t =>
      t.pc == 0x0203 && t.statusByte == 0x20 && t.cycles == 5) = true := by
  decide

/-- VF15: JAM 02. -/
theorem test_VF15 : after
    (start 0x0400 [(0x0400, 0x02)]) (fun t =>
      t.pc == 0x0401 && t.statusByte == 0x20 && t.outcome == .halted && t.cycles == 1) = true := by
  decide

/-- VU1: SLO zp. -/
theorem test_VU1 : after
    { start 0x0200 [(0x0010, 0x81), (0x0200, 0x07), (0x0201, 0x10)] with a := 0x01 } (fun t =>
      t.a == 0x03 && t.pc == 0x0202 && t.statusByte == 0x21 && t.peek 0x0010 == 0x02 && t.cycles == 5) = true := by
  decide

/-- VU2: RLA zp. -/
theorem test_VU2 : after
    { start 0x0200 [(0x0010, 0x40), (0x0200, 0x27), (0x0201, 0x10)] with a := 0xFF, flags := ⟨false, false, false, false, false, true⟩ } (fun t =>
      t.a == 0x81 && t.pc == 0x0202 && t.statusByte == 0xA0 && t.peek 0x0010 == 0x81 && t.cycles == 5) = true := by
  decide

/-- VU3: SRE zp. -/
theorem test_VU3 : after
    { start 0x0200 [(0x0010, 0x03), (0x0200, 0x47), (0x0201, 0x10)] with a := 0x01 } (fun t =>
      t.a == 0x00 && t.pc == 0x0202 && t.statusByte == 0x23 && t.peek 0x0010 == 0x01 && t.cycles == 5) = true := by
  decide

/-- VU4: RRA zp. -/
theorem test_VU4 : after
    { start 0x0200 [(0x0010, 0x02), (0x0200, 0x67), (0x0201, 0x10)] with a := 0x10, flags := ⟨false, false, false, false, false, true⟩ } (fun t =>
      t.a == 0x91 && t.pc == 0x0202 && t.statusByte == 0xA0 && t.peek 0x0010 == 0x81 && t.cycles == 5) = true := by
  decide

/-- VU5: RRA zp, D=1. -/
theorem test_VU5 : after
    { start 0x0200 [(0x0010, 0x03), (0x0200, 0x67), (0x0201, 0x10)] with a := 0x19, flags := ⟨false, false, true, false, false, false⟩ } (fun t =>
      t.a == 0x21 && t.pc == 0x0202 && t.statusByte == 0x28 && t.peek 0x0010 == 0x01 && t.cycles == 5) = true := by
  decide

/-- VU6: DCP zp. -/
theorem test_VU6 : after
    { start 0x0200 [(0x0010, 0x11), (0x0200, 0xC7), (0x0201, 0x10)] with a := 0x10 } (fun t =>
      t.pc == 0x0202 && t.statusByte == 0x23 && t.peek 0x0010 == 0x10 && t.cycles == 5) = true := by
  decide

/-- VU8: ISC zp. -/
theorem test_VU8 : after
    { start 0x0200 [(0x0010, 0x0F), (0x0200, 0xE7), (0x0201, 0x10)] with a := 0x20, flags := ⟨false, false, false, false, false, true⟩ } (fun t =>
      t.a == 0x10 && t.pc == 0x0202 && t.statusByte == 0x21 && t.peek 0x0010 == 0x10 && t.cycles == 5) = true := by
  decide

/-- VU9: ISC aby 7 cycles. -/
theorem test_VU9 : after
    { start 0x0200 [(0x0200, 0xFB), (0x0202, 0x20), (0x2001, 0xFF)] with y := 0x01, flags := ⟨false, false, false, false, false, true⟩ } (fun t =>
      t.pc == 0x0203 && t.statusByte == 0x23 && t.peek 0x2001 == 0x00 && t.cycles == 7) = true := by
  decide

/-- VU10: LAX zp. -/
theorem test_VU10 : after
    (start 0x0200 [(0x0080, 0x80), (0x0200, 0xA7), (0x0201, 0x80)]) (fun t =>
      t.a == 0x80 && t.x == 0x80 && t.pc == 0x0202 && t.statusByte == 0xA0 && t.cycles == 3) = true := by
  decide

/-- VU13: LAX #imm, magic FF. -/
theorem test_VU13 : after
    { start 0x0200 [(0x0200, 0xAB), (0x0201, 0x0F)] with config := { Config.decided with lxaMagic := 0xFF, aneMagic := 0xFF } } (fun t =>
      t.a == 0x0F && t.x == 0x0F && t.pc == 0x0202 && t.statusByte == 0x20 && t.cycles == 2) = true := by
  decide

/-- VU15: SAX abs. -/
theorem test_VU15 : after
    { start 0x0200 [(0x0200, 0x8F), (0x0202, 0x20)] with a := 0xF0, x := 0x3C, flags := ⟨true, false, false, false, false, false⟩ } (fun t =>
      t.pc == 0x0203 && t.statusByte == 0xA0 && t.peek 0x2000 == 0x30 && t.cycles == 4) = true := by
  decide

/-- VU17: ANC 0B. -/
theorem test_VU17 : after
    { start 0x0200 [(0x0200, 0x0B), (0x0201, 0x80)] with a := 0xFF } (fun t =>
      t.a == 0x80 && t.pc == 0x0202 && t.statusByte == 0xA1 && t.cycles == 2) = true := by
  decide

/-- VU19: ALR. -/
theorem test_VU19 : after
    { start 0x0200 [(0x0200, 0x4B), (0x0201, 0x03)] with a := 0xFF } (fun t =>
      t.a == 0x01 && t.pc == 0x0202 && t.statusByte == 0x21 && t.cycles == 2) = true := by
  decide

/-- VU20: ARR bin. -/
theorem test_VU20 : after
    { start 0x0200 [(0x0200, 0x6B), (0x0201, 0xFF)] with a := 0xFF, flags := ⟨false, false, false, false, false, true⟩ } (fun t =>
      t.pc == 0x0202 && t.statusByte == 0xA1 && t.cycles == 2) = true := by
  decide

/-- VU23: ARR dec. -/
theorem test_VU23 : after
    { start 0x0200 [(0x0200, 0x6B), (0x0201, 0xFF)] with a := 0x55, flags := ⟨false, false, true, false, false, false⟩ } (fun t =>
      t.a == 0x80 && t.pc == 0x0202 && t.statusByte == 0x69 && t.cycles == 2) = true := by
  decide

/-- VU24: XAA magic EE. -/
theorem test_VU24 : after
    { start 0x0200 [(0x0200, 0x8B), (0x0201, 0x0F)] with x := 0xFF } (fun t =>
      t.a == 0x0E && t.pc == 0x0202 && t.statusByte == 0x20 && t.cycles == 2) = true := by
  decide

/-- VU27: AXS borrow. -/
theorem test_VU27 : after
    { start 0x0200 [(0x0200, 0xCB), (0x0201, 0x31)] with a := 0xF0, x := 0x3C, flags := ⟨false, true, false, false, false, false⟩ } (fun t =>
      t.x == 0xFF && t.pc == 0x0202 && t.statusByte == 0xE0 && t.cycles == 2) = true := by
  decide

/-- VU30: LAS partial. -/
theorem test_VU30 : after
    { start 0x0200 [(0x0200, 0xBB), (0x0202, 0x30), (0x3000, 0xF3)] with sp := 0x0F } (fun t =>
      t.a == 0x03 && t.x == 0x03 && t.sp == 0x03 && t.pc == 0x0203 && t.statusByte == 0x20 && t.cycles == 4) = true := by
  decide

/-- VU31: TAS. -/
theorem test_VU31 : after
    { start 0x0200 [(0x0200, 0x9B), (0x0202, 0x30)] with a := 0xFF, x := 0x0F, y := 0x10 } (fun t =>
      t.sp == 0x0F && t.pc == 0x0203 && t.statusByte == 0x20 && t.peek 0x3010 == 0x01 && t.cycles == 5) = true := by
  decide

/-- VU33: AHX izy. -/
theorem test_VU33 : after
    { start 0x0200 [(0x0041, 0x30), (0x0200, 0x93), (0x0201, 0x40)] with a := 0xFF, x := 0xFF, y := 0x01 } (fun t =>
      t.pc == 0x0202 && t.statusByte == 0x20 && t.peek 0x3001 == 0x31 && t.cycles == 6) = true := by
  decide

/-- VU34: SHX cross. -/
theorem test_VU34 : after
    { start 0x0200 [(0x0200, 0x9E), (0x0201, 0xF0), (0x0202, 0x12)] with x := 0x0F, y := 0x20 } (fun t =>
      t.pc == 0x0203 && t.statusByte == 0x20 && t.peek 0x0310 == 0x03 && t.cycles == 5) = true := by
  decide

/-- VU35: SHX H=FF. -/
theorem test_VU35 : after
    { start 0x0200 [(0x0200, 0x9E), (0x0202, 0xFF)] with x := 0xFF, y := 0x01 } (fun t =>
      t.pc == 0x0203 && t.statusByte == 0x20 && t.peek 0xFF01 == 0x00 && t.cycles == 5) = true := by
  decide

/-- VU36: SHY. -/
theorem test_VU36 : after
    { start 0x0200 [(0x0200, 0x9C), (0x0202, 0x20)] with x := 0x05, y := 0x0F } (fun t =>
      t.pc == 0x0203 && t.statusByte == 0x20 && t.peek 0x2005 == 0x01 && t.cycles == 5) = true := by
  decide

/-- VI1: IRQ masked (i_poll=1): NOP runs. -/
theorem test_VI1 : after
    { start 0x0600 [(0x0600, 0xEA), (0xFFFB, 0x80), (0xFFFF, 0x90)] with flags := ⟨false, false, false, true, false, false⟩, host := [.levels true false] } (fun t =>
      t.pc == 0x0601 && t.statusByte == 0x24 && t.cycles == 2) = true := by
  decide

/-- VI2: IRQ taken. -/
theorem test_VI2 : after
    { start 0x0600 [(0x0600, 0xEA), (0xFFFB, 0x80), (0xFFFF, 0x90)] with flags := ⟨false, false, false, false, false, true⟩, iPoll := false, host := [.levels true false] } (fun t =>
      t.sp == 0xFC && t.pc == 0x9000 && t.statusByte == 0x25 && t.peek 0x01FF == 0x06 && t.peek 0x01FE == 0x00 &&
      t.peek 0x01FD == 0x21 && t.cycles == 7) = true := by
  decide

/-- VI3: NMI edge taken, I=1. -/
theorem test_VI3 : after
    { start 0x0600 [(0x0600, 0xEA), (0xFFFB, 0x80), (0xFFFF, 0x90)] with flags := ⟨false, false, false, true, false, false⟩, host := [.levels false true] } (fun t =>
      t.sp == 0xFC && t.pc == 0x8000 && t.statusByte == 0x24 && t.peek 0x01FF == 0x06 && t.peek 0x01FE == 0x00 &&
      t.peek 0x01FD == 0x24 && t.cycles == 7) = true := by
  decide

/-- VI4: NMI held (nmi_prev=1): no entry. -/
theorem test_VI4 : after
    { start 0x0600 [(0x0600, 0xEA), (0xFFFB, 0x80), (0xFFFF, 0x90)] with nmiPrev := true, host := [.levels false true] } (fun t =>
      t.pc == 0x0601 && t.statusByte == 0x20 && t.cycles == 2) = true := by
  decide

/-- VI5: NMI and IRQ: NMI first. -/
theorem test_VI5 : after
    { start 0x0600 [(0x0600, 0xEA), (0xFFFB, 0x80), (0xFFFF, 0x90)] with iPoll := false, host := [.levels true true] } (fun t =>
      t.sp == 0xFC && t.pc == 0x8000 && t.statusByte == 0x24 && t.peek 0x01FF == 0x06 && t.peek 0x01FE == 0x00 &&
      t.peek 0x01FD == 0x20 && t.cycles == 7) = true := by
  decide

/-- VI6: poll_ok=0: nothing taken. -/
theorem test_VI6 : after
    { start 0x0600 [(0x0600, 0xEA), (0xFFFB, 0x80), (0xFFFF, 0x90)] with iPoll := false, pollOk := false, host := [.levels true true] } (fun t =>
      t.pc == 0x0601 && t.statusByte == 0x20 && t.cycles == 2) = true := by
  decide

/-- VI7: halted: nothing. -/
theorem test_VI7 : after
    { start 0x0600 [(0x0600, 0xEA), (0xFFFB, 0x80), (0xFFFF, 0x90)] with halted := true, host := [.levels true true] } (fun t =>
      t.pc == 0x0600 && t.statusByte == 0x20 && t.outcome == .halted && t.cycles == 0) = true := by
  decide

/-- VRST1: reset from running state. -/
theorem test_VRST1 : after
    { start 0x1234 [(0xFFFD, 0xE0)] with a := 0x12, x := 0x34, y := 0x56, flags := ⟨true, false, true, false, false, true⟩, host := [.reset] } (fun t =>
      t.sp == 0xFC && t.pc == 0xE000 && t.statusByte == 0xAD && !t.halted && !t.nmiPending && !t.pollOk && t.iPoll &&
      t.cycles == 7) = true := by
  decide

/-- VRST2: reset leaves halted, clears pending NMI. -/
theorem test_VRST2 : after
    { start 0x0401 [(0xFFFC, 0x34), (0xFFFD, 0x12)] with sp := 0x02, halted := true, nmiPrev := true, nmiPending := true, host := [.reset] } (fun t =>
      t.sp == 0xFF && t.pc == 0x1234 && t.statusByte == 0x24 && !t.halted && !t.nmiPending && !t.pollOk && t.iPoll &&
      t.cycles == 7) = true := by
  decide

/-- VRST3: ADC with D=1 refused, nothing changes. -/
theorem test_VRST3 : refusedDecimal
    { start 0x0200 [(0x0200, 0x69), (0x0201, 0x01)] with a := 0x09, flags := ⟨false, false, true, false, false, false⟩, pollOk := false, config := { Config.decided with decimalMode := .reject }, host := [.levels false true] } = true := by
  decide

/-- VRST4: SBC with D=0 runs normally. -/
theorem test_VRST4 : after
    { start 0x0200 [(0x0200, 0xE9), (0x0201, 0x01)] with a := 0x09, flags := ⟨false, false, false, false, false, true⟩, pollOk := false, config := { Config.decided with decimalMode := .reject }, host := [.levels false true] } (fun t =>
      t.a == 0x08 && t.pc == 0x0202 && t.statusByte == 0x21 && t.nmiPrev && t.nmiPending && t.pollOk && t.cycles == 2) = true := by
  decide

/-- VRST5: STA to ROM: write ignored, step OK. -/
theorem test_VRST5 : after
    { start 0x0200 [(0x0200, 0x8D), (0x0202, 0xE0), (0xE000, 0x77)] with a := 0x55, readOnly := [⟨0xE000, 0x2000⟩] } (fun t =>
      t.pc == 0x0203 && t.statusByte == 0x20 && t.peek 0xE000 == 0x77 && t.cycles == 4) = true := by
  decide

/-! ## Witnesses: states and operands that meet the hypotheses of the obligations, each clause at a boundary value -/

/-- Registers at their bounds, the first and the last byte of memory listed. -/
def full : State :=
  { start 0xFFFF [(0x0000, 0x80), (0xFFFF, 0x01)] with a := 0xFF, x := 0xFF, y := 0x01, sp := 0x00 }

theorem witness_EncodeInvertsDecode : decode [0xFF, 0xFF, 0xFF, 0x00] = .ok (.iscAbx 0xFFFF, [0x00]) := by rfl

theorem witness_EveryOpcodeDecodes : (Instr.iscAbx 0xFFFF).opcode = 0xFF ∧ Instr.brk.opcode = 0x00 := by decide

theorem witness_AddressingOperationsHaveAddresses :
    (Instr.shy 0xFFFF).operation.accessClass = some .write ∧
      (Instr.rorAcc).operation.accessClass = some .readModifyWrite ∧
      (Instr.iscIzy 0xFF).operation.accessClass = some .readModifyWrite ∧
      (Instr.nopImp).operation.accessClass = some .read ∧ (Instr.nopImm80 0).operation.accessClass = some .read ∧
      (Instr.las 0xFFFF).operation.accessClass = some .read := by
  decide

/-- The instruction at 0xFFFF with its operand bytes wrapping to 0x0000: interrupts held off, and allowed with none due. -/
theorem witness_StepRunsDecodedInstruction :
    full.Inputs false false [] ∧ full.halted = false ∧
      ({ full with pollOk := false } : State).pollOk = false ∧
      ((full.nmiPending || (false && !full.nmiPrev)) = false ∧ (false = false ∨ full.iPoll = true)) ∧
      ((({ full with nmiPrev := true } : State).nmiPending || (true && !({ full with nmiPrev := true } : State).nmiPrev)) =
        false ∧ (true = false ∨ full.iPoll = true)) ∧
      decode [full.peek full.pc, full.peek (full.pc + 1), full.peek (full.pc + 2)] = .ok (.oraIzx 0x80, [0x00]) :=
  ⟨.inr ⟨rfl, rfl, rfl, rfl⟩, rfl, rfl, by decide, by decide, by rfl⟩

theorem witness_JamHaltsUntilReset :
    Instr.jam02.operation = .jam ∧ Instr.jamF2.operation = .jam ∧
      ({ full with halted := true, host := [.levels true true] } : State).Inputs true true [] ∧
      ({ full with halted := true } : State).halted = true ∧
      ({ full with halted := true, host := [.reset] } : State).host = .reset :: [] :=
  ⟨rfl, rfl, .inl rfl, rfl, rfl⟩

/-- A pending NMI with the line low, and an edge that arrives. -/
theorem witness_NmiEntry :
    full.mem.wf = true ∧ full.halted = false ∧ full.pollOk = true ∧
      ({ full with nmiPending := true } : State).Inputs false false [] ∧
      ({ full with nmiPending := true } : State).nmiPending = true ∧
      ({ full with host := [.levels true true] } : State).Inputs true true [] ∧ (true = true ∧ full.nmiPrev = false) :=
  ⟨by decide, rfl, rfl, .inr ⟨rfl, rfl, rfl, rfl⟩, rfl, .inl rfl, rfl, rfl⟩

/-- An IRQ with NMI low, and with NMI held high since before. -/
theorem witness_IrqEntry :
    let s : State := { full with iPoll := false, nmiPrev := true, host := [.levels true true, .reset] }
    s.mem.wf = true ∧ s.Inputs true true [.reset] ∧ s.halted = false ∧ s.pollOk = true ∧ s.nmiPending = false ∧
      (true = false ∨ s.nmiPrev = true) ∧ s.iPoll = false ∧
      ({ full with iPoll := false, irqLine := true } : State).Inputs true false [] :=
  ⟨by decide, .inl rfl, rfl, rfl, rfl, .inr rfl, rfl, .inr ⟨rfl, rfl, rfl, rfl⟩⟩

/-- A reset, a halted step, an NMI, an IRQ, an instruction. -/
theorem witness_EventPriority :
    (({ full with host := [.reset] } : State).host = .reset :: [] ∧
      ∃ t, step { full with host := [.reset] } = .next t) ∧
    (∃ t, step { full with halted := true } = .next t) ∧
    (∃ t, step { full with nmiPending := true } = .next t) ∧
    (∃ t, step { full with iPoll := false, irqLine := true } = .next t) ∧
    (∃ t, step full = .next t) ∧ full.Inputs false false [] :=
  ⟨⟨rfl, _, rfl⟩, ⟨_, rfl⟩, ⟨_, rfl⟩, ⟨_, rfl⟩, ⟨_, rfl⟩, .inr ⟨rfl, rfl, rfl, rfl⟩⟩

theorem witness_NmiEdgeIsLatchedUntilTaken :
    ({ full with host := [.levels false true], pollOk := false } : State).Inputs false true [] ∧ full.halted = false ∧
      ∃ t, step { full with host := [.levels false true], pollOk := false } = .next t :=
  ⟨.inl rfl, rfl, _, rfl⟩

theorem witness_ResetSequence : ({ full with halted := true, host := [.reset] } : State).host = .reset :: [] := by decide

/-- The invariant holds in a state that no run from reset reaches, and it steps on. -/
theorem witness_StepKeepsInv :
    ({ full with trace := [], cycles := 0 } : State).Inv ∧ ∃ t, step { full with trace := [], cycles := 0 } = .next t :=
  ⟨⟨by decide, rfl, by decide, by decide⟩, _, rfl⟩

theorem witness_CyclesEqualTraceLength : ∃ t, step full = .next t := ⟨_, rfl⟩

/-- JAM, a crossing-sensitive read that crosses, a branch taken over a page, an implied instruction. -/
theorem witness_RealizedCycleCount :
    (∃ t, exec .jam02 full = .next t) ∧ (∃ t, exec (.ldaAbx 0x12FF) full = .next t) ∧
      (∃ t, exec (.bne 0x80) full = .next t) ∧ ∃ t, exec .nopImp full = .next t :=
  ⟨⟨_, rfl⟩, ⟨_, rfl⟩, ⟨_, rfl⟩, _, rfl⟩

/-- A store to the last address of a region that rejects writes, and the same store where the bus accepts it. -/
theorem witness_RejectedWritesChangeNothing :
    let s : State := { start 0x0200 [(0x0200, 0x85), (0x0201, 0xFF)] with readOnly := [⟨0x00F0, 16⟩] }
    s.mem.wf = true ∧ s.writable 0x00FF = false ∧ s.writable 0x00EF = true ∧ s.writable 0x0100 = true ∧
      (∃ t, step s = .next t) ∧ ∃ t, step { s with readOnly := [] } = .next t ∧ t.event ≠ .instruction 0x20 :=
  ⟨by decide, by decide, by decide, by decide, ⟨_, rfl⟩, _, rfl, by decide⟩

/-- JSR with its return address pushed over its own last byte, at 0x01FE, where the bus accepts writes: the one clause that JSR
meets. -/
theorem witness_RejectedWritesChangeNothing_jsr :
    let s : State := { start 0x01FC [(0x01FC, 0x20), (0x01FE, 0x40)] with readOnly := [⟨0x01FE, 1⟩] }
    s.mem.wf = true ∧ ∃ t, step { s with readOnly := [] } = .next t ∧ t.event = .instruction 0x20 ∧ t.pc = 0xFE00 ∧
      after s (fun u => u.pc == 0x4000) = true :=
  ⟨by decide, _, rfl, by decide, by decide, by decide⟩

/-- STA $FF changes the byte at 0x00FF. -/
theorem witness_MemoryChangesOnlyAsTraced :
    let s : State := { start 0x0200 [(0x0200, 0x85), (0x0201, 0xFF)] with a := 0x01 }
    s.mem.wf = true ∧ ∃ t, step s = .next t ∧ t.peek 0x00FF ≠ s.peek 0x00FF :=
  ⟨by decide, _, rfl, by decide⟩

theorem witness_RefusalOnlyInRejectMode :
    let s : State := { full with
      config := { Config.decided with decimalMode := .reject }, flags := { full.flags with d := true } }
    (s.config.decimalMode = .reject ∧ s.flags.d = true ∧
      (Instr.arr 0).operation ∈ [Operation.adc, .sbc, .rra, .isc, .arr]) ∧
    ¬ (Instr.cmpImm 0).operation ∈ [Operation.adc, .sbc, .rra, .isc, .arr] ∧ full.config.decimalMode = .nmos := by
  decide

/-- BIT sets V, SED sets D, SEI sets I, SEC sets C. -/
theorem witness_FlagWriters :
    (∃ t, exec (.bitZp 0x10) { full with mem := [(0x10, 0x40)] } = .next t ∧ t.flags.v ≠ full.flags.v) ∧
      (∃ t, exec .sed full = .next t ∧ t.flags.d ≠ full.flags.d) ∧
      (∃ t, exec .sei full = .next t ∧ t.flags.i ≠ full.flags.i) ∧
      ∃ t, exec .sec full = .next t ∧ t.flags.c ≠ full.flags.c :=
  ⟨⟨_, rfl, by decide⟩, ⟨_, rfl, by decide⟩, ⟨_, rfl, by decide⟩, _, rfl, by decide⟩

/-- LDA changes A, LDX X, LDY Y, PHA SP. -/
theorem witness_RegisterWriters :
    (∃ t, exec (.ldaImm 0) full = .next t ∧ t.a ≠ full.a) ∧ (∃ t, exec .aslAcc full = .next t ∧ t.a ≠ full.a) ∧
      (∃ t, exec (.ldxImm 0) full = .next t ∧ t.x ≠ full.x) ∧ (∃ t, exec (.ldyImm 0) full = .next t ∧ t.y ≠ full.y) ∧
      ∃ t, exec .pha full = .next t ∧ t.sp ≠ full.sp :=
  ⟨⟨_, rfl, by decide⟩, ⟨_, rfl, by decide⟩, ⟨_, rfl, by decide⟩, ⟨_, rfl, by decide⟩, _, rfl, by decide⟩

theorem witness_LoadsWriteRegister :
    (Instr.ldaIzy 0xFF).operation = .lda ∧ (Instr.ldxAby 0xFFFF).operation = .ldx ∧ (Instr.ldyImm 0).operation = .ldy := by
  decide

theorem witness_StoresWriteMemory :
    full.mem.wf = true ∧ ((Instr.staIzy 0xFF).operation = .sta ∧ 0xFF#8 = full.a) ∧
      ((Instr.stxZpy 0xFF).operation = .stx ∧ 0xFF#8 = full.x) ∧ ((Instr.styAbs 0xFFFF).operation = .sty ∧ 0x01#8 = full.y) ∧
      ((Instr.saxIzx 0xFF).operation = .sax ∧ 0xFF#8 = full.a &&& full.x) := by
  decide

theorem witness_TransfersMoveRegisters :
    (∃ r : Regs, Instr.tax = .tax ∧ r = { full.regs with x := full.a, flags := { full.flags with n := full.a.getLsbD 7, z := full.a == 0 } }) ∧
      (∃ r : Regs, Instr.tay = .tay ∧ r = { full.regs with y := full.a, flags := { full.flags with n := full.a.getLsbD 7, z := full.a == 0 } }) ∧
      (∃ r : Regs, Instr.txa = .txa ∧ r = { full.regs with a := full.x, flags := { full.flags with n := full.x.getLsbD 7, z := full.x == 0 } }) ∧
      (∃ r : Regs, Instr.tya = .tya ∧ r = { full.regs with a := full.y, flags := { full.flags with n := full.y.getLsbD 7, z := full.y == 0 } }) ∧
      (∃ r : Regs, Instr.tsx = .tsx ∧ r = { full.regs with x := full.sp, flags := { full.flags with n := full.sp.getLsbD 7, z := full.sp == 0 } }) ∧
      ∃ r : Regs, Instr.txs = .txs ∧ r = { full.regs with sp := full.x } :=
  ⟨⟨_, rfl, rfl⟩, ⟨_, rfl, rfl⟩, ⟨_, rfl, rfl⟩, ⟨_, rfl, rfl⟩, ⟨_, rfl, rfl⟩, _, rfl, rfl⟩

/-- SP = 0x00, so the push wraps. -/
theorem witness_PushesStoreOnStack :
    full.mem.wf = true ∧ full.sp = 0x00 ∧ (Instr.pha = .pha ∧ 0xFF#8 = full.a) ∧
      (Instr.php = .php ∧ 0x30#8 = full.flags.pread true) := by
  decide

theorem witness_PullsLoadFromStack :
    (∃ r : Regs, Instr.pla = .pla ∧ r = { full.regs with
        a := full.peek (stackAddr (full.sp + 1)),
        flags := { full.flags with
          n := (full.peek (stackAddr (full.sp + 1))).getLsbD 7, z := full.peek (stackAddr (full.sp + 1)) == 0 } }) ∧
      ∃ r : Regs, Instr.plp = .plp ∧ r = { full.regs with flags :=
        let v := full.peek (stackAddr (full.sp + 1))
        { n := v.getLsbD 7, v := v.getLsbD 6, d := v.getLsbD 3, i := v.getLsbD 2, z := v.getLsbD 1, c := v.getLsbD 0 } } :=
  ⟨⟨_, rfl, rfl⟩, _, rfl, rfl⟩

/-- NMOS with D = 1, and REJECT with D = 0. -/
theorem witness_AddWithCarry :
    (Instr.adcIzy 0xFF).operation = .adc ∧ full.config.decimalMode = .nmos ∧
      ({ full with config := { Config.decided with decimalMode := .reject } } : State).flags.d = false := by
  decide

theorem witness_SubtractWithBorrow :
    (Instr.sbcImmEB 0xFF).operation = .sbc ∧ (Instr.sbcAbx 0xFFFF).operation = .sbc ∧ full.config.decimalMode = .nmos ∧
      ({ full with config := { Config.decided with decimalMode := .reject } } : State).flags.d = false := by
  decide

/-- 99 and 99, for ADC and for SBC. -/
theorem witness_DecimalArithmeticIsRightOnBcd :
    let s : State := { full with a := 0x99, flags := { full.flags with d := true } }
    s.flags.d = true ∧ s.config.decimalMode = .nmos ∧ 99 < 100 ∧ s.a = bcd 99 ∧
      s.operandValue (Instr.adcImm 0x99).operand = some (bcd 99) ∧ (Instr.adcImm 0x99).operation = .adc ∧
      s.operandValue (Instr.sbcImm 0x99).operand = some (bcd 99) ∧ (Instr.sbcImm 0x99).operation = .sbc := by
  decide

theorem witness_LogicOperations :
    (∃ f : Byte → Byte, (Instr.andIzy 0xFF).operation = .and ∧ f = (full.a &&& ·)) ∧
      (∃ f : Byte → Byte, (Instr.oraImm 0).operation = .ora ∧ f = (full.a ||| ·)) ∧
      ∃ f : Byte → Byte, (Instr.eorAbx 0xFFFF).operation = .eor ∧ f = (full.a ^^^ ·) :=
  ⟨⟨_, rfl, rfl⟩, ⟨_, rfl, rfl⟩, _, rfl, rfl⟩

theorem witness_BitTest : (Instr.bitAbs 0xFFFF).operation = .bit ∧ (Instr.bitZp 0).operation = .bit := by decide

theorem witness_ComparesSetFlags :
    ((Instr.cmpImm 0xFF).operation = .cmp ∧ 0xFF#8 = full.a) ∧ ((Instr.cpxAbs 0xFFFF).operation = .cpx ∧ 0xFF#8 = full.x) ∧
      ((Instr.cpyZp 0).operation = .cpy ∧ 0x01#8 = full.y) := by
  decide

theorem witness_IncrementDecrementMemory :
    full.mem.wf = true ∧ ((Instr.incAbs 0xFFFF).operation = .inc ∧ (1 : Byte) = 1) ∧
      ((Instr.decZp 0).operation = .dec ∧ (-1 : Byte) = -1) := by
  decide

theorem witness_IncrementDecrementRegisters :
    (∃ r : Regs, Instr.inx = .inx ∧
        r = { full.regs with x := full.x + 1, flags := { full.flags with n := (full.x + 1).getLsbD 7, z := (full.x + 1) == 0 } }) ∧
      (∃ r : Regs, Instr.iny = .iny ∧
        r = { full.regs with y := full.y + 1, flags := { full.flags with n := (full.y + 1).getLsbD 7, z := (full.y + 1) == 0 } }) ∧
      (∃ r : Regs, Instr.dex = .dex ∧
        r = { full.regs with x := full.x - 1, flags := { full.flags with n := (full.x - 1).getLsbD 7, z := (full.x - 1) == 0 } }) ∧
      (∃ r : Regs, Instr.dey = .dey ∧
        r = { full.regs with y := full.y - 1, flags := { full.flags with n := (full.y - 1).getLsbD 7, z := (full.y - 1) == 0 } }) :=
  ⟨⟨_, rfl, rfl⟩, ⟨_, rfl, rfl⟩, ⟨_, rfl, rfl⟩, _, rfl, rfl⟩

/-- The accumulator form and a memory form, for each of the four operations. -/
theorem witness_ShiftsAndRotates :
    full.mem.wf = true ∧ ((Instr.aslAcc).operand = .accumulator ∧ 0xFF#8 = full.a) ∧
      ((Instr.rorAbs 0xFFFF).operand = .memory (.abs 0xFFFF) ∧ 0x01#8 = full.peek (effectiveAddress (.abs 0xFFFF) full)) ∧
      ((Instr.aslAcc).operation = .asl ∧ 0xFE#8 = BitVec.ofNat 8 (2 * (0xFF#8).toNat) ∧ true = (0xFF#8).getLsbD 7) ∧
      ((Instr.lsrAcc).operation = .lsr ∧ 0x7F#8 = BitVec.ofNat 8 ((0xFF#8).toNat / 2) ∧ true = (0xFF#8).getLsbD 0) ∧
      ((Instr.rolAcc).operation = .rol ∧ 0xFE#8 = BitVec.ofNat 8 (2 * (0xFF#8).toNat + full.flags.c.toNat) ∧
        true = (0xFF#8).getLsbD 7) ∧
      ((Instr.rorAbs 0xFFFF).operation = .ror ∧ 0x00#8 = BitVec.ofNat 8 ((0x01#8).toNat / 2 + 128 * full.flags.c.toNat) ∧
        true = (0x01#8).getLsbD 0) := by
  decide

theorem witness_ShiftThenLogic :
    full.mem.wf = true ∧ (Instr.sloAbs 0x0000).operation ∈ [Operation.slo, .rla, .sre] ∧
      (Instr.rlaIzy 0xFF).operation ∈ [Operation.slo, .rla, .sre] ∧
      (Instr.sreIzx 0xFF).operation ∈ [Operation.slo, .rla, .sre] ∧
      0x80#8 = full.peek (effectiveAddress (.abs 0x0000) full) ∧
      ((Instr.sloAbs 0x0000).operation = .slo ∧ 0x00#8 = BitVec.ofNat 8 (2 * (0x80#8).toNat) ∧
        true = (0x80#8).getLsbD 7 ∧ 0xFF#8 = full.a ||| 0x00#8) := by
  decide

theorem witness_DecrementThenCompare : full.mem.wf = true ∧ (Instr.dcpIzy 0xFF).operation = .dcp := by decide

theorem witness_RotateThenAdd :
    full.mem.wf = true ∧ (Instr.rraIzy 0xFF).operation = .rra ∧ full.config.decimalMode = .nmos ∧
      ({ full with config := { Config.decided with decimalMode := .reject } } : State).flags.d = false := by
  decide

theorem witness_IncrementThenSubtract :
    full.mem.wf = true ∧ (Instr.iscIzy 0xFF).operation = .isc ∧ full.config.decimalMode = .nmos ∧
      ({ full with config := { Config.decided with decimalMode := .reject } } : State).flags.d = false := by
  decide

theorem witness_LoadsOfSeveralRegisters :
    (full.operandValue (Instr.laxAbs 0xFFFF).operand = some 0x01 ∧ (Instr.laxAbs 0xFFFF).operation = .lax) ∧
      (full.operandValue (Instr.laxImm 0xFF).operand = some 0xFF ∧ (Instr.laxImm 0xFF).operation = .lax) ∧
      (full.operandValue (Instr.las 0xFFFF).operand = some 0x80 ∧ (Instr.las 0xFFFF).operation = .las) := by
  decide

theorem witness_ImmediateFormulas :
    ((Instr.anc2B 0xFF).operand = .immediate 0xFF ∧ (Instr.anc2B 0xFF).operation = .anc ∧ 0xFF#8 = full.a &&& 0xFF ∧
        true = (full.a &&& 0xFF).getLsbD 7) ∧
      ((Instr.alr 0x01).operand = .immediate 0x01 ∧ (Instr.alr 0x01).operation = .alr ∧
        0x00#8 = BitVec.ofNat 8 ((full.a &&& 0x01).toNat / 2) ∧ true = (full.a &&& 0x01).getLsbD 0) ∧
      ((Instr.xaa 0xFF).operand = .immediate 0xFF ∧ (Instr.xaa 0xFF).operation = .xaa ∧
        0xFF#8 = (full.a ||| full.config.aneMagic) &&& full.x &&& 0xFF ∧ false = full.flags.c) ∧
      ((Instr.axs 0xFF).operand = .immediate 0xFF ∧ (Instr.axs 0xFF).operation = .axs) := by
  decide

theorem witness_AndThenRotate :
    let s : State := { full with
      config := { Config.decided with decimalMode := .reject }, flags := { full.flags with d := true } }
    full.config.decimalMode = .nmos ∧ full.flags.d = false ∧ s.config.decimalMode = .reject ∧ s.flags.d = true := by
  decide

theorem witness_HighByteStores :
    full.mem.wf = true ∧ ((Instr.tas 0xFFFF).operation = .tas ∧ 0xFF#8 = full.a &&& full.x ∧ 0xFF#8 = full.a &&& full.x) ∧
      ((Instr.ahxIzy 0xFF).operation = .ahx ∧ 0xFF#8 = full.a &&& full.x ∧ 0x00#8 = full.sp) ∧
      ((Instr.shx 0x00FF).operation = .shx ∧ 0xFF#8 = full.x ∧ 0x00#8 = full.sp) ∧
      ((Instr.shy 0x12FF).operation = .shy ∧ 0x01#8 = full.y ∧ 0x00#8 = full.sp) := by
  decide

/-- The low byte of the JSR target 0x4000 at the top of memory, its high byte at PC + 2 = 0x0001, off the stack. -/
theorem witness_JumpToSubroutine :
    let s : State := start 0xFFFF [(0x0001, 0x40), (0xFFFF, 0x20)]
    s.mem.wf = true ∧ s.peek (s.pc + 2) = hiByte 0x4000 ∧ s.pc + 2 ≠ stackAddr s.sp ∧ s.pc + 2 ≠ stackAddr (s.sp - 1) := by
  decide

theorem witness_Branches :
    (Instr.bpl 0x80 = .bpl 0x80 ∧ true = (!full.flags.n)) ∧ (Instr.bmi 0x7F = .bmi 0x7F ∧ false = full.flags.n) ∧
      (Instr.bvc 0xFF = .bvc 0xFF ∧ true = (!full.flags.v)) ∧ (Instr.bvs 0 = .bvs 0 ∧ false = full.flags.v) ∧
      (Instr.bcc 0x80 = .bcc 0x80 ∧ true = (!full.flags.c)) ∧ (Instr.bcs 0x7F = .bcs 0x7F ∧ false = full.flags.c) ∧
      (Instr.bne 0xFE = .bne 0xFE ∧ true = (!full.flags.z)) ∧ (Instr.beq 0x01 = .beq 0x01 ∧ false = full.flags.z) := by
  decide

/-- SP = 0x00: the pushes wrap within the stack page. -/
theorem witness_SoftwareInterrupt : full.mem.wf = true ∧ full.sp = 0x00 := by decide

theorem witness_CallsAndInterruptsReturn :
    full.mem.wf = true ∧ full.writable (stackAddr full.sp) = true ∧ full.writable (stackAddr (full.sp - 1)) = true ∧
      full.writable (stackAddr (full.sp - 2)) = true := by
  decide

theorem witness_FlagOperations :
    (∃ f : Flags, Instr.clc = .clc ∧ f = { full.flags with c := false }) ∧
      (∃ f : Flags, Instr.sec = .sec ∧ f = { full.flags with c := true }) ∧
      (∃ f : Flags, Instr.cli = .cli ∧ f = { full.flags with i := false }) ∧
      (∃ f : Flags, Instr.sei = .sei ∧ f = { full.flags with i := true }) ∧
      (∃ f : Flags, Instr.cld = .cld ∧ f = { full.flags with d := false }) ∧
      (∃ f : Flags, Instr.sed = .sed ∧ f = { full.flags with d := true }) ∧
      (∃ f : Flags, Instr.clv = .clv ∧ f = { full.flags with v := false }) :=
  ⟨⟨_, rfl, rfl⟩, ⟨_, rfl, rfl⟩, ⟨_, rfl, rfl⟩, ⟨_, rfl, rfl⟩, ⟨_, rfl, rfl⟩, ⟨_, rfl, rfl⟩, _, rfl, rfl⟩

theorem witness_NoOperations :
    (Instr.nopImp).operation = .nop ∧ (Instr.nopAbxFC 0xFFFF).operation = .nop ∧ (Instr.nopImmE2 0xFF).operation = .nop := by
  decide

end Sys2Proof.Tests
end

section
/-! SUPPORT. The status byte bit by bit (spec 10_state.md R27, R28), and the instruction a step fetches (30_encoding.md R90,
R91, R99). -/

namespace Sys2Proof.Machine

/-! ## The status byte -/

/-- The bits of the byte read or pushed, from bit 7 down: a finite fact about six latches and B. -/
theorem Flags.pread_bits (f : Flags) (b : Bool) :
    [7, 6, 5, 4, 3, 2, 1, 0].map (f.pread b).getLsbD = [f.n, f.v, true, b, f.d, f.i, f.z, f.c] := by
  obtain ⟨n, v, d, i, z, c⟩ := f
  revert n v d i z c b
  decide

/-- Loading P from a pushed status byte gives the six latches back, whatever B was. -/
theorem Flags.pwrite_pread (f : Flags) (b : Bool) : Flags.pwrite (f.pread b) = f := by
  have h := f.pread_bits b
  simp only [List.map_cons, List.map_nil, List.cons.injEq] at h
  obtain ⟨hn, hv, -, -, hd, hi, hz, hc, -⟩ := h
  simp only [Flags.pwrite, hn, hv, hd, hi, hz, hc]

/-- Settles O24: the bits of the byte read or pushed, and the latches a write of P loads. -/
theorem statusByteLayout : Obligations.StatusByteLayout :=
  ⟨Flags.pread_bits, fun _ => rfl, Flags.pwrite_pread⟩

/-! ## The instruction at PC -/

/-- At each cell of the opcode map the instruction ignores the operand bytes its mode does not have. -/
theorem instrMap_ignores_missing (r c : Fin 16) (b1 b2 : Byte) :
    instrMap[r][c] b1 b2 = instrMap[r][c]
      (if 1 ≤ opcodeMap[r][c].mode.operandBytes then b1 else 0)
      (if 2 ≤ opcodeMap[r][c].mode.operandBytes then b2 else 0) := by
  fin_cases r <;> fin_cases c <;> rfl

theorem decodeBytes_ignores_missing (op b1 b2 : Byte) :
    decodeBytes op b1 b2 = decodeBytes op
      (if 1 ≤ (descriptor op).mode.operandBytes then b1 else 0)
      (if 2 ≤ (descriptor op).mode.operandBytes then b2 else 0) :=
  instrMap_ignores_missing _ _ _ _

/-- What the decoder reads from a list of three bytes is the instruction that a step fetches from them. -/
theorem decodeBytes_of_decode {op b1 b2 : Byte} {i : Instr} {rest : List Byte}
    (h : decode [op, b1, b2] = .ok (i, rest)) : decodeBytes op b1 b2 = i := by
  rw [decodeBytes_ignores_missing]
  simp only [decode] at h
  split at h <;> simp_all

/-- Settles O7: a step that takes no interrupt runs the instruction at PC after the NMI edge is latched. -/
theorem stepRunsDecodedInstruction : Obligations.StepRunsDecodedInstruction := by
  intro s irq nmi queue i rest hinputs hrunning hquiet hdecode
  have hfetch : s.fetchInstr = i := decodeBytes_of_decode hdecode
  rw [step_instruction hinputs hrunning hquiet, hfetch]
  rfl

end Sys2Proof.Machine
end

section
/-! SUPPORT. Every instruction by its operation and operand: which operation of the model runs in which class of the
addressing modes (spec 30_encoding.md R95, 40_addressing.md R110 to R116), tied to `exec` by `exec_eq_meaning`. -/

namespace Sys2Proof.Machine

/-- The operation of the read class on its operand byte (40_addressing.md R112). -/
def readOp : Operation → Byte → State → State
  | .lda => opLda
  | .ldx => opLdx
  | .ldy => opLdy
  | .adc => opAdc
  | .sbc => opSbc
  | .and => opAnd
  | .ora => opOra
  | .eor => opEor
  | .bit => opBit
  | .cmp => opCmp
  | .cpx => opCpx
  | .cpy => opCpy
  | .lax => opLax
  | .las => opLas
  | _ => opNop

/-- The operation on an immediate operand (R116): LAX has its own (46_undocumented.md R308). -/
def immediateOp : Operation → Byte → State → State
  | .lax => opLaxImmediate
  | .anc => opAnc
  | .alr => opAlr
  | .arr => opArr
  | .xaa => opXaa
  | .axs => opAxs
  | o => readOp o

/-- The operation of the accumulator form (R115) on the byte of A. -/
def shiftOp : Operation → Byte → State → Byte × State
  | .asl => opAsl
  | .lsr => opLsr
  | .rol => opRol
  | .ror => opRor
  | _ => fun v s => (v, s)

/-- The operation of the read-modify-write class on its byte (R112). -/
def modifyOp : Operation → Byte → State → Byte × State
  | .inc => opInc
  | .dec => opDec
  | .slo => opSlo
  | .rla => opRla
  | .sre => opSre
  | .rra => opRra
  | .dcp => opDcp
  | .isc => opIsc
  | o => shiftOp o

/-- The operation of the implied form (R114) where it touches registers only. -/
def registerOp : Operation → State → State
  | .tax => opTax
  | .tay => opTay
  | .txa => opTxa
  | .tya => opTya
  | .tsx => opTsx
  | .txs => opTxs
  | .inx => opInx
  | .iny => opIny
  | .dex => opDex
  | .dey => opDey
  | .clc => opClc
  | .sec => opSec
  | .cli => opCli
  | .sei => opSei
  | .cld => opCld
  | .sed => opSed
  | .clv => opClv
  | _ => id

/-- The operation of the implied form: the stack operations have bus cycles of their own. -/
def impliedOp : Operation → State → State
  | .pha => opPha
  | .php => opPhp
  | .pla => opPla
  | .plp => opPlp
  | .rts => opRts
  | .rti => opRti
  | o => registerOp o

/-- The byte a store computes from the registers, before the AND with `H + 1` of 46_undocumented.md R321. -/
def storeSource : Operation → State → Byte
  | .sta => State.a
  | .stx | .shx => State.x
  | .sty | .shy => State.y
  | _ => fun s => s.a &&& s.x

/-- What an operation on the memory operand `m` is, by its access class; JMP and JSR take the operand as their target. -/
def memoryMeaning (o : Operation) (m : MemOperand) (op : Byte) (s : State) : Result State :=
  match o with
  | .jmp => execJmpAbs (effectiveAddress m s) s
  | .jsr => execJsr (effectiveAddress m s) s
  | .tas => runHighStore op m (storeSource .tas) (fun t => t.setSp (t.a &&& t.x)) s
  | .ahx | .shx | .shy => runHighStore op m (storeSource o) id s
  | o =>
    match o.accessClass with
    | some .write => runWrite op m (storeSource o) s
    | some .readModifyWrite => runModify op m (modifyOp o) s
    | some .read | none => runRead op m (readOp o) s

/-- What an operation without an operand is. -/
def impliedMeaning (o : Operation) (op : Byte) (s : State) : Result State :=
  match o with
  | .brk => execBrk s
  | .jam => .next ((s.begin op).halt op)
  | o => runImplied op (impliedOp o) s

/-- What the operation `o` with opcode byte `op` does on the operand `r`. -/
def operandMeaning (o : Operation) (r : Operand) (op : Byte) (s : State) : Result State :=
  match r with
  | .implied => impliedMeaning o op s
  | .accumulator => runAccumulator op (shiftOp o) s
  | .immediate v => runImmediate op v (immediateOp o) s
  | .memory m => memoryMeaning o m op s
  | .indirect w => execJmpInd w s
  | .relative off => runBranch op off (branchTaken o) s

/-- The operations that pass the decimal guard (42_arith_logic.md R183) do so on every operand. -/
def meaning (o : Operation) (r : Operand) (op : Byte) (s : State) : Result State :=
  match o with
  | .adc | .sbc | .rra | .isc | .arr => s.decimalGuard (operandMeaning o r op s)
  | _ => operandMeaning o r op s

/-- Every instruction means what its operation does on its operand: the one place where the dispatch is taken apart. -/
theorem exec_eq_meaning (i : Instr) (s : State) : exec i s = meaning i.operation i.operand i.opcode s := by
  cases i <;> rfl

variable {s t : State}

theorem decimalGuard_next {k : Result State} (h : s.decimalGuard k = .next t) : k = .next t := by
  unfold State.decimalGuard at h
  split at h
  · cases h
  · exact h

/-- An instruction that answers a next state is not refused, so its operation ran on its operand. -/
theorem operandMeaning_of_exec {i : Instr} (h : exec i s = .next t) :
    operandMeaning i.operation i.operand i.opcode s = .next t := by
  rw [exec_eq_meaning] at h
  unfold meaning at h
  split at h
  case h_6 => exact h
  all_goals exact decimalGuard_next h

end Sys2Proof.Machine
end

section
/-! SUPPORT. Which operations may write which register and flag (spec 10_state.md R20, R30 to R34), proved by the class of the
instruction. -/

namespace Sys2Proof.Machine

/-! ## What the arithmetic leaves of the flags -/

variable (a m v : Byte) (f : Flags)

@[simp] theorem adcByte_d : (adcByte a m f).2.d = f.d := by unfold adcByte; split <;> rfl
@[simp] theorem adcByte_i : (adcByte a m f).2.i = f.i := by unfold adcByte; split <;> rfl
@[simp] theorem sbcByte_d : (sbcByte a m f).2.d = f.d := by unfold sbcByte; split <;> rfl
@[simp] theorem sbcByte_i : (sbcByte a m f).2.i = f.i := by unfold sbcByte; split <;> rfl
@[simp] theorem arrByte_d : (arrByte a f).2.d = f.d := by unfold arrByte; split <;> rfl
@[simp] theorem arrByte_i : (arrByte a f).2.i = f.i := by unfold arrByte; split <;> rfl
@[simp] theorem compareFlags_v : (compareFlags a m f).v = f.v := rfl
@[simp] theorem compareFlags_d : (compareFlags a m f).d = f.d := rfl
@[simp] theorem compareFlags_i : (compareFlags a m f).i = f.i := rfl
@[simp] theorem bitTest_d : (bitTest a m f).d = f.d := rfl
@[simp] theorem bitTest_i : (bitTest a m f).i = f.i := rfl
@[simp] theorem bitTest_c : (bitTest a m f).c = f.c := rfl

/-! ## The writers of each register and flag -/

/-- `t` differs from `s` in A, X, Y, SP, V, D, I and C only where the operation `o` on the operand `r` may write. -/
structure OnlyWriters (o : Operation) (r : Operand) (s t : State) : Prop where
  a : t.a ≠ s.a → o ∈
    [Operation.lda, .pla, .txa, .tya, .adc, .sbc, .and, .ora, .eor, .slo, .rla, .sre, .rra, .isc, .lax, .anc, .alr,
      .arr, .xaa, .las] ∨ r = .accumulator ∧ o ∈ [Operation.asl, .lsr, .rol, .ror]
  x : t.x ≠ s.x → o ∈ [Operation.ldx, .tax, .tsx, .inx, .dex, .lax, .las, .axs]
  y : t.y ≠ s.y → o ∈ [Operation.ldy, .tay, .iny, .dey]
  sp : t.sp ≠ s.sp → o ∈ [Operation.txs, .pha, .php, .pla, .plp, .jsr, .rts, .brk, .rti, .tas, .las]
  v : t.flags.v ≠ s.flags.v → o ∈ [Operation.adc, .sbc, .bit, .clv, .plp, .rti, .rra, .isc, .arr]
  d : t.flags.d ≠ s.flags.d → o ∈ [Operation.cld, .sed, .plp, .rti]
  i : t.flags.i ≠ s.flags.i → o ∈ [Operation.cli, .sei, .plp, .rti, .brk]
  c : t.flags.c ≠ s.flags.c → o ∈
    [Operation.adc, .sbc, .cmp, .cpx, .cpy, .asl, .lsr, .rol, .ror, .clc, .sec, .plp, .rti, .slo, .rla, .sre, .rra,
      .dcp, .isc, .anc, .alr, .arr, .axs]

/-- `t` has the registers and flags of `s`, PC left out. -/
structure SameRegisters (s t : State) : Prop where
  a : t.a = s.a
  x : t.x = s.x
  y : t.y = s.y
  sp : t.sp = s.sp
  flags : t.flags = s.flags

/-- `t` differs from `s` in PC, in the hidden state and in the report at most. -/
structure SameButPc (s t : State) : Prop extends SameRegisters s t where
  mem : t.mem = s.mem
  readOnly : t.readOnly = s.readOnly

variable {o : Operation} {r : Operand} {s t u w : State}

theorem SameRegisters.rfl : SameRegisters s s := ⟨Eq.refl _, Eq.refl _, Eq.refl _, Eq.refl _, Eq.refl _⟩

theorem SameRegisters.onlyWriters (h : SameRegisters s t) : OnlyWriters o r s t := by
  obtain ⟨ha, hx, hy, hsp, hf⟩ := h
  constructor <;> simp [ha, hx, hy, hsp, hf]

/-- What an operation writes between bus cycles is what its instruction writes. -/
theorem OnlyWriters.between (h : OnlyWriters o r u w) (before : SameRegisters s u) (after : SameRegisters w t) :
    OnlyWriters o r s t := by
  obtain ⟨ha, hx, hy, hsp, hf⟩ := before
  obtain ⟨ha', hx', hy', hsp', hf'⟩ := after
  obtain ⟨a, x, y, sp, v, d, i, c⟩ := h
  rw [← ha', ha] at a
  rw [← hx', hx] at x
  rw [← hy', hy] at y
  rw [← hsp', hsp] at sp
  rw [← hf', hf] at v d i c
  exact ⟨a, x, y, sp, v, d, i, c⟩

/-! ## The bus cycles write no register but PC -/

theorem sameRegisters_finish (op : Byte) (i₀ crossed : Bool) (p : Nat) :
    SameRegisters w (w.finish op i₀ crossed p) := ⟨rfl, rfl, rfl, rfl, rfl⟩

theorem sameRegisters_memWrite_finish (addr : Word) (v op : Byte) (i₀ crossed : Bool) (p : Nat) :
    SameRegisters w ((w.memWrite addr v).finish op i₀ crossed p) := ⟨rfl, rfl, rfl, rfl, rfl⟩

theorem sameRegisters_dummyRead (op : Byte) (addr : Word) :
    SameRegisters s ((s.begin op).dummyRead addr) := ⟨rfl, rfl, rfl, rfl, rfl⟩

theorem sameRegisters_fetchByte (op v : Byte) : SameRegisters s ((s.begin op).fetchByte v) :=
  ⟨rfl, rfl, rfl, rfl, rfl⟩

theorem sameRegisters_readOperand (op : Byte) (m : MemOperand) :
    SameRegisters s (resolve m (s.begin op)).readOperand.2 := by
  constructor <;> simp

theorem sameRegisters_fixupRead (op : Byte) (m : MemOperand) :
    SameRegisters s (resolve m (s.begin op)).fixupRead := by
  constructor <;> simp

theorem sameRegisters_writeBack (op : Byte) (m : MemOperand) (addr : Word) (v : Byte) :
    SameRegisters s (((resolve m (s.begin op)).fixupRead.memRead addr).2.memWrite addr v) := by
  constructor <;> simp

/-! ## The operations -/

variable (o r u)

theorem readOp_onlyWriters : OnlyWriters o r u (readOp o v u) := by
  unfold readOp
  split
  all_goals
    constructor <;>
    simp [opLda, opLdx, opLdy, opAdc, opSbc, opAnd, opOra, opEor, opBit, opCmp, opCpx, opCpy, opLax, opLas, opNop,
      State.setNZ, Flags.setNZ]

theorem immediateOp_onlyWriters : OnlyWriters o r u (immediateOp o v u) := by
  unfold immediateOp
  split
  case h_7 => exact readOp_onlyWriters v _ r u
  all_goals
    constructor <;>
    simp [opLaxImmediate, opLax, opAnc, opAlr, opArr, opXaa, opAxs, lsr, State.setNZ, Flags.setNZ]

theorem shiftOp_onlyWriters : OnlyWriters o r u (shiftOp o v u).2 := by
  unfold shiftOp
  split
  all_goals
    constructor <;>
    simp [opAsl, opLsr, opRol, opRor, asl, lsr, rol, ror, State.setNZ, Flags.setNZ]

/-- The accumulator form writes A as well. -/
theorem accumulator_onlyWriters :
    OnlyWriters o .accumulator u ((shiftOp o u.a u).2.setA (shiftOp o u.a u).1) := by
  have h := shiftOp_onlyWriters u.a o .accumulator u
  refine ⟨?_, h.x, h.y, h.sp, h.v, h.d, h.i, h.c⟩
  unfold shiftOp
  split <;> simp

theorem modifyOp_onlyWriters : OnlyWriters o r u (modifyOp o v u).2 := by
  unfold modifyOp
  split
  case h_9 => exact shiftOp_onlyWriters v _ r u
  all_goals
    constructor <;>
    simp [opInc, opDec, opSlo, opRla, opSre, opRra, opDcp, opIsc, asl, lsr, rol, ror, State.setNZ, Flags.setNZ]

theorem registerOp_onlyWriters : OnlyWriters o r u (registerOp o u) := by
  unfold registerOp
  split
  all_goals
    constructor <;>
    simp [opTax, opTay, opTxa, opTya, opTsx, opTxs, opInx, opIny, opDex, opDey, opClc, opSec, opCli, opSei, opCld,
      opSed, opClv, State.setNZ, Flags.setNZ]

theorem impliedOp_onlyWriters : OnlyWriters o r u (impliedOp o u) := by
  unfold impliedOp
  split
  case h_7 => exact registerOp_onlyWriters _ r u
  all_goals
    constructor <;>
    simp [opPha, opPhp, opPla, opPlp, opRts, opRti, pullAfterDummy, State.returnFromException_eq, State.setNZ,
      Flags.setNZ]

variable {o r u}

/-! ## The classes of instructions -/

variable {op v : Byte} {m : MemOperand}

theorem runImplied_onlyWriters {f : State → State} (hf : ∀ u, OnlyWriters o r u (f u))
    (h : runImplied op f s = .next t) : OnlyWriters o r s t := by
  cases h
  exact (hf _).between (sameRegisters_dummyRead ..) (sameRegisters_finish ..)

theorem runImmediate_onlyWriters {f : Byte → State → State} (hf : ∀ v u, OnlyWriters o r u (f v u))
    (h : runImmediate op v f s = .next t) : OnlyWriters o r s t := by
  cases h
  exact (hf _ _).between (sameRegisters_fetchByte ..) (sameRegisters_finish ..)

theorem runRead_onlyWriters {f : Byte → State → State} (hf : ∀ v u, OnlyWriters o r u (f v u))
    (h : runRead op m f s = .next t) : OnlyWriters o r s t := by
  cases h
  exact (hf _ _).between (sameRegisters_readOperand ..) (sameRegisters_finish ..)

theorem runModify_onlyWriters {f : Byte → State → Byte × State} (hf : ∀ v u, OnlyWriters o r u (f v u).2)
    (h : runModify op m f s = .next t) : OnlyWriters o r s t := by
  cases h
  exact (hf _ _).between (sameRegisters_writeBack ..) (sameRegisters_memWrite_finish ..)

theorem runHighStore_onlyWriters {src : State → Byte} {pre : State → State} (hp : ∀ u, OnlyWriters o r u (pre u))
    (h : runHighStore op m src pre s = .next t) : OnlyWriters o r s t := by
  cases h
  exact (hp _).between (sameRegisters_fixupRead ..) (sameRegisters_memWrite_finish ..)

theorem runWrite_sameRegisters {value : State → Byte} (h : runWrite op m value s = .next t) : SameRegisters s t := by
  cases h
  constructor <;> simp

theorem runBranch_sameButPc {off : Byte} {cond : Flags → Bool} (h : runBranch op off cond s = .next t) :
    SameButPc s t := by
  unfold runBranch at h
  dsimp only at h
  generalize cond s.flags = taken at h
  generalize (hiByte _ != hiByte _) = crossed at h
  cases taken <;> cases crossed <;> cases h <;> exact ⟨by constructor <;> simp, by simp, by simp⟩

theorem execJmpAbs_sameButPc {w : Word} (h : execJmpAbs w s = .next t) : SameButPc s t := by
  cases h
  exact ⟨by constructor <;> simp, by simp, by simp⟩

theorem execJmpInd_sameButPc {w : Word} (h : execJmpInd w s = .next t) : SameButPc s t := by
  cases h
  exact ⟨by constructor <;> simp [jumpIndirect], by simp [jumpIndirect], by simp [jumpIndirect]⟩

theorem execJsr_onlyWriters {w : Word} (h : execJsr w s = .next t) : OnlyWriters .jsr r s t := by
  cases h
  constructor <;> simp [callSubroutine]

theorem execBrk_onlyWriters (h : execBrk s = .next t) : OnlyWriters .brk r s t := by
  cases h
  constructor <;> simp

theorem halt_sameRegisters : SameRegisters s ((s.begin op).halt op) := ⟨rfl, rfl, rfl, rfl, rfl⟩

/-! ## Every instruction -/

theorem impliedMeaning_onlyWriters (h : impliedMeaning o op s = .next t) : OnlyWriters o r s t := by
  unfold impliedMeaning at h
  split at h
  next => exact execBrk_onlyWriters h
  next =>
    cases h
    exact halt_sameRegisters.onlyWriters
  next => exact runImplied_onlyWriters (impliedOp_onlyWriters _ r) h

theorem memoryMeaning_onlyWriters (h : memoryMeaning o m op s = .next t) : OnlyWriters o r s t := by
  unfold memoryMeaning at h
  split at h
  next => exact (execJmpAbs_sameButPc h).toSameRegisters.onlyWriters
  next => exact execJsr_onlyWriters h
  next => exact runHighStore_onlyWriters (fun u => by constructor <;> simp) h
  iterate 3 next => exact runHighStore_onlyWriters (fun _ => SameRegisters.rfl.onlyWriters) h
  next =>
    split at h
    · exact (runWrite_sameRegisters h).onlyWriters
    · exact runModify_onlyWriters (fun v => modifyOp_onlyWriters v _ r) h
    · exact runRead_onlyWriters (fun v => readOp_onlyWriters v _ r) h
    · exact runRead_onlyWriters (fun v => readOp_onlyWriters v _ r) h

theorem operandMeaning_onlyWriters (h : operandMeaning o r op s = .next t) : OnlyWriters o r s t := by
  cases r with
  | implied => exact impliedMeaning_onlyWriters h
  | accumulator => exact runImplied_onlyWriters (accumulator_onlyWriters o) h
  | immediate v => exact runImmediate_onlyWriters (fun v => immediateOp_onlyWriters v o _) h
  | memory m => exact memoryMeaning_onlyWriters h
  | indirect w => exact (execJmpInd_sameButPc h).toSameRegisters.onlyWriters
  | relative off => exact (runBranch_sameButPc h).toSameRegisters.onlyWriters

theorem exec_onlyWriters {i : Instr} (h : exec i s = .next t) : OnlyWriters i.operation i.operand s t :=
  operandMeaning_onlyWriters (operandMeaning_of_exec h)

/-- Settles O22: the flags a completing instruction may change are those its operation writes. -/
theorem flagWriters : Obligations.FlagWriters := by
  intro i s t h
  obtain ⟨-, -, -, -, hv, hd, hi, hc⟩ := exec_onlyWriters h
  exact ⟨hv, hd, hi, hc⟩

/-- Settles O23: the registers a completing instruction may change are those its operation writes. -/
theorem registerWriters : Obligations.RegisterWriters := by
  intro i s t h
  obtain ⟨ha, hx, hy, hsp, -⟩ := exec_onlyWriters h
  exact ⟨ha, hx, hy, hsp⟩

end Sys2Proof.Machine
end

section
/-! SUPPORT. Memory changes only by what the trace of the step shows (spec 10_state.md R44, 20_memory.md R62), followed through
every bus cycle of a step. -/

namespace Sys2Proof.Machine

/-- During a step that began with the memory of `s`, `u` is a state whose trace accounts for its memory: a byte that differs
was written, with the value it now has, where the bus accepts writes. -/
structure Accounted (s u : State) : Prop where
  wf : u.mem.wf = true
  readOnly : u.readOnly = s.readOnly
  traced : ∀ a, u.peek a ≠ s.peek a → wr a (u.peek a) ∈ u.trace ∧ s.writable a = true

variable {s t u u' : State}

theorem State.writable_of_readOnly (h : u.readOnly = s.readOnly) (a : Word) : u.writable a = s.writable a := by
  simp only [State.writable, h]

namespace Accounted

/-- Nothing is written yet. -/
theorem of_sameMemory (hw : s.mem.wf = true) (hm : u.mem = s.mem) (hr : u.readOnly = s.readOnly) : Accounted s u where
  wf := hm ▸ hw
  readOnly := hr
  traced a ha := absurd (State.peek_congr hm a) ha

/-- Memory stays and the trace only grows. -/
theorem keep (h : Accounted s u) (hm : u'.mem = u.mem) (hr : u'.readOnly = u.readOnly) (ht : u.trace ⊆ u'.trace) :
    Accounted s u' where
  wf := hm ▸ h.wf
  readOnly := hr.trans h.readOnly
  traced a ha := by
    rw [State.peek_congr hm] at ha ⊢
    exact ⟨ht (h.traced a ha).1, (h.traced a ha).2⟩

theorem quiet (h : Accounted s u) (hq : Quiet u u') : Accounted s u' :=
  h.keep hq.mem (congrArg Platform.readOnly hq.platform) (hq.trace ▸ List.Subset.refl _)

theorem readCycle (h : Accounted s u) (a : Word) : Accounted s (u.readCycle a) :=
  h.keep rfl rfl (List.subset_append_left _ _)

theorem finish (h : Accounted s u) (op : Byte) (i₀ crossed : Bool) (p : Nat) :
    Accounted s (u.finish op i₀ crossed p) :=
  h.keep rfl rfl (List.Subset.refl _)

/-- The one bus cycle that changes memory logs the address and the value (10_state.md R44, 20_memory.md R62). -/
theorem memWrite (h : Accounted s u) (w : Word) (v : Byte) : Accounted s (u.memWrite w v) where
  wf := State.memWrite_wf h.wf w v
  readOnly := h.readOnly
  traced a ha := by
    rw [State.memWrite_peek h.wf] at ha ⊢
    by_cases hit : a = w ∧ u.writable w = true
    · obtain ⟨rfl, haccept⟩ := hit
      rw [State.writable_of_readOnly h.readOnly] at haccept
      simp [haccept, State.writable_of_readOnly h.readOnly, wr]
    · rw [if_neg hit] at ha ⊢
      obtain ⟨hmem, haccept⟩ := h.traced a ha
      exact ⟨List.mem_append_left _ hmem, haccept⟩

theorem push (h : Accounted s u) (v : Byte) : Accounted s (u.push v) :=
  (h.memWrite _ v).keep rfl rfl (List.Subset.refl _)

theorem setPc (h : Accounted s u) (w : Word) : Accounted s (u.setPc w) := h.keep rfl rfl (List.Subset.refl _)

theorem report (h : Accounted s u) (x : StepOutcome) (e : StepEvent) (k : Nat) : Accounted s (u.report x e k) :=
  h.keep rfl rfl (List.Subset.refl _)

theorem jumpVector (h : Accounted s u) (vec : Word) : Accounted s (u.jumpVector vec) :=
  ((h.readCycle vec).readCycle (vec + 1)).setPc _

theorem takeException (h : Accounted s u) (b : Bool) (vec : Word) : Accounted s (u.takeException b vec) := by
  have pushed : Accounted s (u.afterPushes b) := ((h.push _).push _).push _
  have flagged : Accounted s ((u.afterPushes b).setFlags { u.flags with i := true }) :=
    pushed.keep rfl rfl (List.Subset.refl _)
  exact (flagged.jumpVector vec).keep rfl rfl (List.Subset.refl _)

end Accounted

/-! ## The operations -/

variable (o : Operation) (v : Byte) (u)

theorem readOp_quiet : Quiet u (readOp o v u) := by
  unfold readOp
  split <;> exact ⟨rfl, rfl, rfl, rfl, rfl⟩

theorem immediateOp_quiet : Quiet u (immediateOp o v u) := by
  unfold immediateOp
  split
  case h_7 => exact readOp_quiet u _ v
  all_goals exact ⟨rfl, rfl, rfl, rfl, rfl⟩

theorem shiftOp_quiet : Quiet u (shiftOp o v u).2 := by
  unfold shiftOp
  split <;> exact ⟨rfl, rfl, rfl, rfl, rfl⟩

theorem accumulator_quiet : Quiet u ((shiftOp o u.a u).2.setA (shiftOp o u.a u).1) := by
  obtain ⟨hpc, hhidden, hplatform, hmem, htrace⟩ := shiftOp_quiet u o u.a
  exact ⟨hpc, hhidden, hplatform, hmem, htrace⟩

theorem modifyOp_quiet : Quiet u (modifyOp o v u).2 := by
  unfold modifyOp
  split
  case h_9 => exact shiftOp_quiet u _ v
  all_goals exact ⟨rfl, rfl, rfl, rfl, rfl⟩

theorem registerOp_quiet : Quiet u (registerOp o u) := by
  unfold registerOp
  split <;> exact ⟨rfl, rfl, rfl, rfl, rfl⟩

variable {o v u}

/-- PHA and PHP write the stack; the other stack operations read it. -/
theorem impliedOp_accounted (h : Accounted s u) : Accounted s (impliedOp o u) := by
  unfold impliedOp
  split
  next => exact h.push _
  next => exact h.push _
  case h_7 => exact h.quiet (registerOp_quiet _ _)
  all_goals
    refine h.keep ?_ ?_ ?_ <;>
    simp [opPla, opPlp, opRts, opRti, pullAfterDummy, State.returnFromException_eq]

/-! ## The classes of instructions -/

variable {r : Operand} {m : MemOperand} {op : Byte}

theorem runImplied_accounted (hw : s.mem.wf = true) {f : State → State}
    (hf : ∀ u, Accounted s u → Accounted s (f u)) (h : runImplied op f s = .next t) : Accounted s t := by
  cases h
  exact (hf _ (.of_sameMemory hw (by simp) (by simp))).finish ..

theorem runImmediate_accounted (hw : s.mem.wf = true) {f : Byte → State → State} (hf : ∀ v u, Quiet u (f v u))
    (h : runImmediate op v f s = .next t) : Accounted s t := by
  cases h
  have fetched : Accounted s ((s.begin op).fetchByte v) := .of_sameMemory hw (by simp) (by simp)
  exact (fetched.quiet (hf _ _)).finish ..

theorem runRead_accounted (hw : s.mem.wf = true) {f : Byte → State → State} (hf : ∀ v u, Quiet u (f v u))
    (h : runRead op m f s = .next t) : Accounted s t := by
  cases h
  have read : Accounted s (resolve m (s.begin op)).readOperand.2 := .of_sameMemory hw (by simp) (by simp)
  exact (read.quiet (hf _ _)).finish ..

theorem fixupRead_accounted (hw : s.mem.wf = true) : Accounted s (resolve m (s.begin op)).fixupRead :=
  .of_sameMemory hw (by simp) (by simp)

theorem runWrite_accounted (hw : s.mem.wf = true) {value : State → Byte} (h : runWrite op m value s = .next t) :
    Accounted s t := by
  cases h
  exact ((fixupRead_accounted hw).memWrite ..).finish ..

theorem runHighStore_accounted (hw : s.mem.wf = true) {src : State → Byte} {pre : State → State}
    (hp : ∀ u, Quiet u (pre u)) (h : runHighStore op m src pre s = .next t) : Accounted s t := by
  cases h
  exact (((fixupRead_accounted hw).quiet (hp _)).memWrite ..).finish ..

theorem runModify_accounted (hw : s.mem.wf = true) {f : Byte → State → Byte × State}
    (hf : ∀ v u, Quiet u (f v u).2) (h : runModify op m f s = .next t) : Accounted s t := by
  cases h
  have back := ((fixupRead_accounted (m := m) (op := op) hw).readCycle (effectiveAddress m s)).memWrite
    (effectiveAddress m s) (s.peek (effectiveAddress m s))
  rw [modifyOperand_eq]
  exact ((back.quiet (hf _ _)).memWrite ..).finish ..

theorem SameButPc.accounted (hw : s.mem.wf = true) (h : SameButPc s t) : Accounted s t :=
  .of_sameMemory hw h.mem h.readOnly

theorem execJsr_accounted (hw : s.mem.wf = true) {w : Word} (h : execJsr w s = .next t) : Accounted s t := by
  have fetched : Accounted s ((s.begin 0x20#8).fetchByte (loByte w)) := .of_sameMemory hw (by simp) (by simp)
  have pushed : Accounted s (afterCall s w) := ((fetched.readCycle _).push _).push _
  obtain rfl := Host.Outcome.next.inj ((execJsr_eq s w).symm.trans h)
  exact ((pushed.readCycle _).setPc _).finish ..

theorem execBrk_accounted (hw : s.mem.wf = true) (h : execBrk s = .next t) : Accounted s t := by
  cases h
  have fetched : Accounted s (s.begin 0x00#8).fetchNext := .of_sameMemory hw (by simp) (by simp)
  exact (fetched.takeException ..).finish ..

theorem impliedMeaning_accounted (hw : s.mem.wf = true) (h : impliedMeaning o op s = .next t) : Accounted s t := by
  unfold impliedMeaning at h
  split at h
  next => exact execBrk_accounted hw h
  next =>
    cases h
    exact .of_sameMemory hw (by simp) (by simp)
  next => exact runImplied_accounted hw (fun _ => impliedOp_accounted) h

theorem memoryMeaning_accounted (hw : s.mem.wf = true) (h : memoryMeaning o m op s = .next t) : Accounted s t := by
  unfold memoryMeaning at h
  split at h
  next => exact (execJmpAbs_sameButPc h).accounted hw
  next => exact execJsr_accounted hw h
  iterate 4 next => exact runHighStore_accounted hw (fun _ => by constructor <;> rfl) h
  next =>
    split at h
    · exact runWrite_accounted hw h
    · exact runModify_accounted hw (fun v u => modifyOp_quiet u _ v) h
    · exact runRead_accounted hw (fun v u => readOp_quiet u _ v) h
    · exact runRead_accounted hw (fun v u => readOp_quiet u _ v) h

theorem operandMeaning_accounted (hw : s.mem.wf = true) (h : operandMeaning o r op s = .next t) : Accounted s t := by
  cases r with
  | implied => exact impliedMeaning_accounted hw h
  | accumulator => exact runImplied_accounted hw (fun u hu => hu.quiet (accumulator_quiet u o)) h
  | immediate v => exact runImmediate_accounted hw (fun v u => immediateOp_quiet u o v) h
  | memory m => exact memoryMeaning_accounted hw h
  | indirect w => exact (execJmpInd_sameButPc h).accounted hw
  | relative off => exact (runBranch_sameButPc h).accounted hw

theorem exec_accounted (hw : s.mem.wf = true) {i : Instr} (h : exec i s = .next t) : Accounted s t :=
  operandMeaning_accounted hw (operandMeaning_of_exec h)

/-! ## The step -/

theorem interruptEntry_accounted (hw : s.mem.wf = true) (e : StepEvent) (vec : Word) :
    Accounted s (s.interruptEntry e vec) := by
  have waited : Accounted s ((s.clearTrace.readCycle s.pc).readCycle s.pc) := .of_sameMemory hw (by simp) (by simp)
  exact (waited.takeException false vec).report ..

theorem takeReset_accounted (hw : s.mem.wf = true) : Accounted s s.takeReset :=
  .of_sameMemory hw s.takeReset_mem (congrArg Platform.readOnly s.takeReset_platform)

theorem stayHalted_accounted (hw : s.mem.wf = true) : Accounted s s.stayHalted := .of_sameMemory hw rfl rfl

/-- The boundary, which takes the inputs and latches the NMI edge, leaves memory and the regions as they are. -/
theorem Accounted.of_boundary (h : Accounted u t) (hm : u.mem = s.mem) (hr : u.readOnly = s.readOnly) :
    Accounted s t where
  wf := h.wf
  readOnly := h.readOnly.trans hr
  traced a ha := by
    rw [← State.peek_congr hm] at ha
    rw [← State.writable_of_readOnly hr]
    exact h.traced a ha

theorem step_accounted (hw : s.mem.wf = true) (h : step s = .next t) : Accounted s t := by
  obtain ⟨queue, -, hs⟩ | ⟨irq, nmi, queue, -, ⟨-, hs⟩ | ⟨-, ⟨-, -, hs⟩ | ⟨-, -, -, -, hs⟩ | ⟨-, hs⟩⟩⟩ := step_cases s
  · -- reset
    obtain rfl := Host.Outcome.next.inj (hs.symm.trans h)
    exact (takeReset_accounted (s := { s with host := queue }) hw).of_boundary rfl rfl
  · -- halted
    obtain rfl := Host.Outcome.next.inj (hs.symm.trans h)
    exact (stayHalted_accounted (s := s.withInputs irq nmi queue) hw).of_boundary rfl rfl
  · -- NMI
    obtain rfl := Host.Outcome.next.inj (hs.symm.trans h)
    exact (interruptEntry_accounted (s := (s.latched irq nmi queue).acknowledgeNmi) hw ..).of_boundary rfl rfl
  · -- IRQ
    obtain rfl := Host.Outcome.next.inj (hs.symm.trans h)
    exact (interruptEntry_accounted (s := s.latched irq nmi queue) hw ..).of_boundary rfl rfl
  · -- the instruction at PC
    exact (exec_accounted (s := s.latched irq nmi queue) hw (hs.symm.trans h)).of_boundary rfl rfl

/-- Settles O20: a byte that reads differently after a step was written by it, as its trace shows. -/
theorem memoryChangesOnlyAsTraced : Obligations.MemoryChangesOnlyAsTraced :=
  fun _ _ a hw h ha => (step_accounted hw h).traced a ha

end Sys2Proof.Machine
end

section
/-! SUPPORT. A step completes in the same way whatever regions reject writes (spec 20_memory.md R62, 60_exceptions.md R403),
lifted from the instructions and entries of Laws/Bus.lean to the step. -/

namespace Sys2Proof.Machine

/-- `u` completes as `t` does on a bus that answers writes otherwise: equal but for memory and the regions, and for what JSR
reads back after its pushes (44_control.md R252). -/
structure SameCompletion (t u : State) : Prop where
  outcome : u.outcome = t.outcome
  event : u.event = t.event
  cycles : u.cycles = t.cycles
  hidden : u.hidden = t.hidden
  regs : u.regs = { t.regs with pc := u.pc }
  writes : ∀ (a : Word) (v : Byte), wr a v ∈ t.trace → wr a v ∈ u.trace
  pcAndTrace : t.event ≠ .instruction 0x20#8 → u.pc = t.pc ∧ u.trace = t.trace

variable {s t : State} {ro : List Region}

theorem sameCompletion_withBus (t : State) (mem : Memory) (ro : List Region) : SameCompletion t (t.withBus mem ro) :=
  ⟨rfl, rfl, rfl, rfl, rfl, fun _ _ => id, fun _ => ⟨rfl, rfl⟩⟩

/-- The exception for JSR: its pushes are before the read-back, so its writes are the same on either bus. -/
theorem execJsr_sameCompletion {w : Word} (h : exec (.jsr w) s = .next t) :
    ∃ u, exec (.jsr w) (s.withBus s.mem ro) = .next u ∧ SameCompletion t u := by
  have hevent : t.event = .instruction 0x20#8 := by
    obtain rfl := Host.Outcome.next.inj ((execJsr_eq s w).symm.trans h)
    rfl
  obtain ⟨t', mem, pc, a, pre, v, v', ht', htrace, hu⟩ := execJsr_onBus s ro w
  obtain rfl := Host.Outcome.next.inj (ht'.symm.trans h)
  refine ⟨_, hu, rfl, rfl, rfl, rfl, rfl, ?_, fun hne => absurd hevent hne⟩
  simp [htrace, wr]

theorem exists_eq_jsr {i : Instr} (h : i.operation = .jsr) : ∃ w, i = .jsr w := by
  cases i
  case jsr w => exact ⟨w, rfl⟩
  all_goals cases h

theorem exec_sameCompletion (hw : s.mem.wf = true) {i : Instr} (h : exec i s = .next t) :
    ∃ u, exec i (s.withBus s.mem ro) = .next u ∧ SameCompletion t u := by
  by_cases hj : i.operation = .jsr
  · obtain ⟨w, rfl⟩ := exists_eq_jsr hj
    exact execJsr_sameCompletion h
  · obtain ⟨mem, hu⟩ := exec_onBus s ro i hw hj
    rw [h] at hu
    exact ⟨_, hu, sameCompletion_withBus ..⟩

theorem takeReset_sameCompletion (s : State) (ro : List Region) :
    SameCompletion s.takeReset (s.withBus s.mem ro).takeReset := by
  rw [takeReset_onBus]
  exact sameCompletion_withBus ..

theorem interruptEntry_sameCompletion (hw : s.mem.wf = true) (e : StepEvent) {vec : Word} (h₁ : 0x0200 ≤ vec.toNat)
    (h₂ : 0x0200 ≤ (vec + 1).toNat) :
    SameCompletion (s.interruptEntry e vec) ((s.withBus s.mem ro).interruptEntry e vec) := by
  obtain ⟨mem, hu⟩ := interruptEntry_onBus s ro e vec hw h₁ h₂
  rw [hu]
  exact sameCompletion_withBus ..

theorem queued_withBus (s : State) (queue : List HostEvent) :
    { s.withBus s.mem ro with host := queue } =
      ({ s with host := queue } : State).withBus ({ s with host := queue } : State).mem ro := rfl

theorem latched_withBus (s : State) (irq nmi : Bool) (queue : List HostEvent) :
    (s.withBus s.mem ro).latched irq nmi queue =
      (s.latched irq nmi queue).withBus (s.latched irq nmi queue).mem ro := rfl

theorem acknowledgeNmi_withBus (s : State) :
    (s.withBus s.mem ro).acknowledgeNmi = s.acknowledgeNmi.withBus s.acknowledgeNmi.mem ro := rfl

/-- The boundary does not ask the bus about writes, so a step makes the same choice on either bus. -/
theorem step_sameCompletion (hw : s.mem.wf = true) (h : step s = .next t) :
    ∃ u, step (s.withBus s.mem ro) = .next u ∧ SameCompletion t u := by
  obtain ⟨queue, hq, hs⟩ | ⟨irq, nmi, queue, hin, ⟨hh, hs⟩ | ⟨hh, ⟨hp, hn, hs⟩ | ⟨hp, hn, hi, hm, hs⟩ | ⟨hno, hs⟩⟩⟩ :=
    step_cases s
  · -- reset
    obtain rfl := Host.Outcome.next.inj (hs.symm.trans h)
    refine ⟨_, step_reset (s := s.withBus s.mem ro) hq, ?_⟩
    rw [queued_withBus]
    exact takeReset_sameCompletion { s with host := queue } ro
  · -- halted
    obtain rfl := Host.Outcome.next.inj (hs.symm.trans h)
    exact ⟨_, step_halted (s := s.withBus s.mem ro) hin hh, sameCompletion_withBus _ s.mem ro⟩
  · -- NMI
    obtain rfl := Host.Outcome.next.inj (hs.symm.trans h)
    refine ⟨_, step_nmi (s := s.withBus s.mem ro) hin hh hp hn, ?_⟩
    rw [latched_withBus, acknowledgeNmi_withBus]
    exact interruptEntry_sameCompletion (s := (s.latched irq nmi queue).acknowledgeNmi) hw _ (by decide) (by decide)
  · -- IRQ
    obtain rfl := Host.Outcome.next.inj (hs.symm.trans h)
    refine ⟨_, step_irq (s := s.withBus s.mem ro) hin hh hp hn hi hm, ?_⟩
    rw [latched_withBus]
    exact interruptEntry_sameCompletion (s := s.latched irq nmi queue) hw _ (by decide) (by decide)
  · -- the instruction at PC
    rw [step_instruction (s := s.withBus s.mem ro) hin hh hno, latched_withBus]
    exact exec_sameCompletion (s := s.latched irq nmi queue) hw (hs.symm.trans h)

/-- A byte that changed was written where the bus accepts writes, so a rejected one reads as before. -/
theorem step_peek_rejected (hw : s.mem.wf = true) (h : step s = .next t) {a : Word} (ha : s.writable a = false) :
    t.peek a = s.peek a := by
  by_contra hne
  have haccept := ((step_accounted hw h).traced a hne).2
  simp [ha] at haccept

/-- Settles O19: from where memory may change, and from the same completion on a bus that accepts every write. -/
theorem rejectedWritesChangeNothing : Obligations.RejectedWritesChangeNothing := by
  refine ⟨fun s t a hw ha h => ⟨step_peek_rejected hw h ha, (step_accounted hw h).readOnly⟩, fun s t hw h => ?_⟩
  obtain ⟨u, hu, hsame⟩ := step_sameCompletion (s := { s with readOnly := [] }) (ro := s.readOnly) hw h
  obtain ⟨houtcome, hevent, hcycles, hhidden, hregs, hwrites, hrest⟩ := hsame
  exact ⟨u, hu, houtcome, hevent, hcycles, hhidden, hregs, hwrites, hrest⟩

end Sys2Proof.Machine
end

section
/-! SUPPORT. Encoding and decoding are inverse to each other (spec 30_encoding.md R90 to R97): the operand bytes of a mode
(R91, R92), the cells of the two maps of R95 against each other, and from both what `decode` answers, `decode_eq_ok_iff`. -/

namespace Sys2Proof

/-! ## Operand bytes (R91, R92) -/

/-- The operand that the bytes after an opcode byte give in a mode; the bytes a mode does not have are ignored. -/
def Operand.ofBytes (b1 b2 : Byte) : Mode → Operand
  | .implied => .implied
  | .accumulator => .accumulator
  | .immediate => .immediate b1
  | .zeropage => .memory (.zp b1)
  | .zeropageIndexedX => .memory (.zpx b1)
  | .zeropageIndexedY => .memory (.zpy b1)
  | .absolute => .memory (.abs (wordOf b2 b1))
  | .absoluteIndexedX => .memory (.abx (wordOf b2 b1))
  | .absoluteIndexedY => .memory (.aby (wordOf b2 b1))
  | .indirect => .indirect (wordOf b2 b1)
  | .indexedIndirectX => .memory (.izx b1)
  | .indirectIndexedY => .memory (.izy b1)
  | .relative => .relative b1

theorem Operand.ofBytes_bytes (r : Operand) :
    Operand.ofBytes (r.bytes.getD 0 0) (r.bytes.getD 1 0) r.mode = r := by
  cases r with
  | memory m => cases m <;> simp [ofBytes, bytes, mode, MemOperand.bytes, MemOperand.mode]
  | _ => simp [ofBytes, bytes, mode]

theorem Operand.bytes_ofBytes (b1 b2 : Byte) (m : Mode) :
    (Operand.ofBytes b1 b2 m).bytes = [b1, b2].take m.operandBytes := by
  cases m <;> simp [ofBytes, bytes, MemOperand.bytes, Mode.operandBytes]

theorem Operand.mode_ofBytes (b1 b2 : Byte) (m : Mode) : (Operand.ofBytes b1 b2 m).mode = m := by
  cases m <;> rfl

theorem Operand.bytes_length (r : Operand) : r.bytes.length = r.mode.operandBytes := by
  cases r with
  | memory m => cases m <;> rfl
  | _ => rfl

theorem Mode.operandBytes_le_two (m : Mode) : m.operandBytes ≤ 2 := by
  cases m <;> decide

/-- A list of at most two bytes is a prefix of its first byte and its second, missing ones taken as 0. -/
theorem take_pair_getD {l : List Byte} (h : l.length ≤ 2) : [l.getD 0 0, l.getD 1 0].take l.length = l := by
  match l, h with
  | [], _ => rfl
  | [_], _ => rfl
  | [_, _], _ => rfl

/-! ## The cells of the maps (R93, R95) -/

/-- At each cell the instruction has the cell's row and column as opcode byte, the operation that the opcode map has there, and
the operand of the mode it has there. -/
theorem instrMap_cell (r c : Fin 16) (b1 b2 : Byte) :
    (instrMap[r][c] b1 b2).opcode = BitVec.ofFin (w := 4) r ++ BitVec.ofFin (w := 4) c ∧
      (instrMap[r][c] b1 b2).operation = opcodeMap[r][c].operation ∧
      (instrMap[r][c] b1 b2).operand = Operand.ofBytes b1 b2 opcodeMap[r][c].mode := by
  fin_cases r <;> fin_cases c <;> exact ⟨rfl, rfl, rfl⟩

theorem rowOf_append_columnOf (op : Byte) :
    BitVec.ofFin (w := 4) (rowOf op) ++ BitVec.ofFin (w := 4) (columnOf op) = op :=
  BitVec.extractLsb'_append_extractLsb' (len := 4) (w := 4)

@[simp] theorem opcode_decodeBytes (op b1 b2 : Byte) : (decodeBytes op b1 b2).opcode = op :=
  (instrMap_cell _ _ b1 b2).1.trans (rowOf_append_columnOf op)

theorem operation_decodeBytes (op b1 b2 : Byte) : (decodeBytes op b1 b2).operation = (descriptor op).operation :=
  (instrMap_cell _ _ b1 b2).2.1

theorem operand_decodeBytes (op b1 b2 : Byte) :
    (decodeBytes op b1 b2).operand = Operand.ofBytes b1 b2 (descriptor op).mode :=
  (instrMap_cell _ _ b1 b2).2.2

/-- Bytes that give back the operand of an instruction give back the instruction at its opcode byte: the one place where all
instructions are taken apart, each held against its cell of the map. -/
theorem decodeBytes_of_ofBytes {i : Instr} {b1 b2 : Byte} (h : Operand.ofBytes b1 b2 i.operand.mode = i.operand) :
    decodeBytes i.opcode b1 b2 = i := by
  cases i <;> cases h <;> dsimp only [Instr.opcode] <;> rfl

theorem decodeBytes_opcode_bytes (i : Instr) :
    decodeBytes i.opcode (i.operand.bytes.getD 0 0) (i.operand.bytes.getD 1 0) = i :=
  decodeBytes_of_ofBytes i.operand.ofBytes_bytes

/-- The descriptor of an instruction's opcode byte names its operation and mode (R93). -/
theorem descriptor_opcode (i : Instr) :
    i.operation = (descriptor i.opcode).operation ∧ i.operand.mode = (descriptor i.opcode).mode := by
  have hcell := decodeBytes_opcode_bytes i
  constructor
  · rw [← operation_decodeBytes, hcell]
  · rw [← Operand.mode_ofBytes _ _ (descriptor i.opcode).mode, ← operand_decodeBytes, hcell]

/-! ## What the decoder answers (R90, R91, R97) -/

/-- The decoder splits off the operand bytes that the mode of the opcode byte has, and answers the instruction of the maps'
cell on them. -/
theorem decode_eq_ok_iff {bytes : List Byte} {i : Instr} {rest : List Byte} :
    decode bytes = .ok (i, rest) ↔ ∃ op operands, bytes = op :: (operands ++ rest) ∧
      operands.length = (descriptor op).mode.operandBytes ∧
      decodeBytes op (operands.getD 0 0) (operands.getD 1 0) = i := by
  constructor
  · intro h
    match bytes with
    | [] => cases h
    | op :: tail =>
      simp only [decode] at h
      split at h
      case h_1 h0 => cases h; exact ⟨op, [], rfl, h0.symm, rfl⟩
      case h_2 b1 _ h1 => cases h; exact ⟨op, [b1], rfl, h1.symm, rfl⟩
      case h_3 b1 b2 _ h2 => cases h; exact ⟨op, [b1, b2], rfl, h2.symm, rfl⟩
      case h_4 => cases h
  · rintro ⟨op, operands, rfl, hlen, rfl⟩
    match operands, Mode.operandBytes_le_two (descriptor op).mode with
    | [], _ => simp [decode, ← hlen]
    | [b1], _ => simp [decode, ← hlen]
    | [b1, b2], _ => simp [decode, ← hlen]
    | _ :: _ :: _ :: _, h => simp [← hlen] at h

/-- Settles O1: an instruction has the operand bytes of its mode, and they give its operand back. -/
theorem decodeInvertsEncode : Obligations.DecodeInvertsEncode := by
  intro i rest
  refine decode_eq_ok_iff.mpr ⟨i.opcode, i.operand.bytes, rfl, ?_, decodeBytes_opcode_bytes i⟩
  rw [i.operand.bytes_length, (descriptor_opcode i).2]

/-- Settles O2: the instruction decoded has the opcode byte and the operand bytes it was decoded from. -/
theorem encodeInvertsDecode : Obligations.EncodeInvertsDecode := by
  intro bytes i rest h
  obtain ⟨op, operands, rfl, hlen, rfl⟩ := decode_eq_ok_iff.mp h
  have hbytes : (decodeBytes op (operands.getD 0 0) (operands.getD 1 0)).operand.bytes = operands := by
    rw [operand_decodeBytes, Operand.bytes_ofBytes, ← hlen, take_pair_getD (hlen ▸ Mode.operandBytes_le_two _)]
  rw [encode, hbytes, opcode_decodeBytes, List.cons_append]

theorem decode_three_bytes (op b1 b2 : Byte) : ∃ i rest, decode [op, b1, b2] = .ok (i, rest) := by
  have hlen : ([b1, b2].take (descriptor op).mode.operandBytes).length = (descriptor op).mode.operandBytes := by
    simpa using (descriptor op).mode.operandBytes_le_two
  exact ⟨_, _, decode_eq_ok_iff.mpr ⟨op, _, by rw [List.take_append_drop], hlen, rfl⟩⟩

/-- Settles O3: three bytes always decode, and whatever has an opcode byte is what its descriptor names. -/
theorem everyOpcodeDecodes : Obligations.EveryOpcodeDecodes := by
  intro op b1 b2
  obtain ⟨i, rest, h⟩ := decode_three_bytes op b1 b2
  have hbytes : [op, b1, b2] = encode i ++ rest := encodeInvertsDecode _ _ _ h
  obtain rfl : op = i.opcode := (List.cons.inj hbytes).1
  have hlength : i.length + rest.length = 3 := by
    rw [← encode_length, ← List.length_append, ← hbytes]; rfl
  obtain ⟨hoperation, hmode⟩ := descriptor_opcode i
  exact ⟨i, rest, h, rfl, hoperation, hmode, congrArg (1 + ·.operandBytes) hmode, hlength,
    fun j hj => hj ▸ descriptor_opcode j⟩

/-- The bytes that decode to an instruction are those that begin with its encoding. -/
theorem decode_eq_ok_iff_encode {bytes : List Byte} {i : Instr} {rest : List Byte} :
    decode bytes = .ok (i, rest) ↔ bytes = encode i ++ rest :=
  ⟨encodeInvertsDecode bytes i rest, fun h => h ▸ decodeInvertsEncode i rest⟩

/-- Settles O6: each word is the encoding of its instruction, so it decodes to it. -/
theorem sampleWordsDecode : Obligations.SampleWordsDecode := by
  unfold Obligations.SampleWordsDecode
  simp only [decode_eq_ok_iff_encode, List.append_nil]
  decide

/-! ## The marks of the descriptors (R94, R457) -/

theorem rmwFlag_eq_true_iff (op : Operation) (m : Mode) : rmwFlag op m = true ↔
    op ∈ [Operation.asl, .lsr, .rol, .ror, .inc, .dec, .slo, .rla, .sre, .rra, .dcp, .isc] ∧ m ≠ .accumulator := by
  have hclass : op.accessClass = some .readModifyWrite ↔
      op ∈ [Operation.asl, .lsr, .rol, .ror, .inc, .dec, .slo, .rla, .sre, .rra, .dcp, .isc] := by
    cases op <;> decide
  rw [← hclass]
  simp [rmwFlag]

theorem opcodeMap_rmw (r c : Fin 16) :
    opcodeMap[r][c].rmw = rmwFlag opcodeMap[r][c].operation opcodeMap[r][c].mode := by
  revert r c; decide

theorem opcodeMap_extraOnCross_iff (r c : Fin 16) : opcodeMap[r][c].extraOnCross = true ↔
    opcodeMap[r][c].operation ∈ [Operation.lda, .ldx, .ldy, .adc, .sbc, .and, .ora, .eor, .cmp, .lax, .las, .nop] ∧
      opcodeMap[r][c].mode ∈ [Mode.absoluteIndexedX, .absoluteIndexedY, .indirectIndexedY] := by
  revert r c; decide

theorem opcodeMap_baseCycles_eq_none_iff (r c : Fin 16) :
    opcodeMap[r][c].baseCycles = none ↔ opcodeMap[r][c].operation = .jam := by
  revert r c; decide

/-- Settles O4: the crossing mark and JAM's missing count are those of the map's cells, the other mark is `rmwFlag`. -/
theorem descriptorsMarkCrossingAndModify : Obligations.DescriptorsMarkCrossingAndModify := by
  intro op
  have hrmw := Bool.eq_iff_iff.mp (opcodeMap_rmw (rowOf op) (columnOf op))
  exact ⟨opcodeMap_extraOnCross_iff _ _, hrmw.trans (rmwFlag_eq_true_iff _ _), opcodeMap_baseCycles_eq_none_iff _ _⟩

end Sys2Proof
end

section
/-! SUPPORT. Which modes an operation meets (spec 40_addressing.md R113, 60_exceptions.md R402), and the addresses of the memory
modes in integers (R117 to R122, R125): words as their two bytes, the zero-page pointer, and what a 16-bit index adds. -/

namespace Sys2Proof

/-! ## The modes an operation meets (R113, R402) -/

section Form

variable {f : Form} (h : f.addressable = true)
include h

theorem Form.exists_memory_of_write (hc : f.operation.accessClass = some .write) : ∃ m, f.operand = .memory m := by
  obtain ⟨o, r⟩ := f
  cases r with
  | memory m => exact ⟨m, rfl⟩
  | _ => simp_all [addressable]

theorem Form.memory_or_accumulator_of_modify (hc : f.operation.accessClass = some .readModifyWrite) :
    (∃ m, f.operand = .memory m) ∨ f.operand = .accumulator := by
  obtain ⟨o, r⟩ := f
  cases r with
  | memory m => exact .inl ⟨m, rfl⟩
  | accumulator => exact .inr rfl
  | _ => simp_all [addressable]

theorem Form.memory_or_immediate_or_nop_of_read (hc : f.operation.accessClass = some .read) :
    (∃ m, f.operand = .memory m) ∨ (∃ v, f.operand = .immediate v) ∨
      f.operand = .implied ∧ f.operation = .nop := by
  obtain ⟨o, r⟩ := f
  cases r with
  | memory m => exact .inl ⟨m, rfl⟩
  | immediate v => exact .inr (.inl ⟨v, rfl⟩)
  | implied => exact .inr (.inr ⟨rfl, by simpa [addressable, show o.accessClass = _ from hc] using h⟩)
  | _ => simp_all [addressable]

end Form

theorem Instr.form_addressable (i : Instr) : i.form.addressable = true := by
  cases i <;> rfl

/-- The cell of its opcode byte has an instruction's operation and mode. -/
theorem Instr.form_encodable (i : Instr) : i.form.encodable = true := by
  obtain ⟨hoperation, hmode⟩ := descriptor_opcode i
  simp only [Form.encodable, List.any_eq_true, Vector.mem_toList_iff]
  exact ⟨_, Vector.getElem_mem _, _, Vector.getElem_mem (columnOf i.opcode).isLt,
    by simpa [form, descriptor] using ⟨hoperation.symm, hmode.symm⟩⟩

theorem Instr.wellFormed_eq_true (i : Instr) : i.wellFormed = true := by
  obtain ⟨hoperation, hmode⟩ := descriptor_opcode i
  simp [wellFormed, Form.wellFormed, i.form_addressable, i.form_encodable, ← hoperation, ← hmode]

theorem opcodeMap_accumulator (r c : Fin 16) (h : opcodeMap[r][c].mode = .accumulator) :
    opcodeMap[r][c].operation ∈ [Operation.asl, .lsr, .rol, .ror] := by
  revert r c; decide

theorem Instr.shift_of_accumulator {i : Instr} (h : i.operand = .accumulator) :
    i.operation ∈ [Operation.asl, .lsr, .rol, .ror] := by
  obtain ⟨hoperation, hmode⟩ := descriptor_opcode i
  rw [hoperation]
  exact opcodeMap_accumulator _ _ (hmode.symm.trans (congrArg Operand.mode h))

/-- Settles O5: every form is addressable, and the accumulator cells of the map are the shifts. -/
theorem addressingOperationsHaveAddresses : Obligations.AddressingOperationsHaveAddresses := by
  intro i
  have haddr := i.form_addressable
  exact ⟨i.wellFormed_eq_true, Form.exists_memory_of_write haddr,
    fun hc => (Form.memory_or_accumulator_of_modify haddr hc).imp_right fun hacc => ⟨hacc, Instr.shift_of_accumulator hacc⟩,
    Form.memory_or_immediate_or_nop_of_read haddr⟩

/-! ## Words in integers -/

@[simp] theorem hiByte_toNat (w : Word) : (hiByte w).toNat = w.toNat / 256 := by
  simp [hiByte, Nat.shiftRight_eq_div_pow]
  omega

@[simp] theorem loByte_toNat (w : Word) : (loByte w).toNat = w.toNat % 256 := by
  simp [loByte]

@[simp] theorem wordOf_toNat (h l : Byte) : (wordOf h l).toNat = h.toNat * 256 + l.toNat := by
  rw [wordOf, BitVec.toNat_append, ← Nat.shiftLeft_add_eq_or_of_lt l.isLt, Nat.shiftLeft_eq]

@[simp] theorem zext16_toNat (v : Byte) : (zext16 v).toNat = v.toNat := by
  simp [zext16]
  omega

theorem zext16_eq_ofNat (v : Byte) : zext16 v = BitVec.ofNat 16 v.toNat :=
  BitVec.eq_of_toNat_eq (by simp [zext16_toNat]; omega)

/-! ## A base address plus an index (R120, R122, R125) -/

theorem add_zext16_toNat (w : Word) (r : Byte) : (w + zext16 r).toNat = (w.toNat + r.toNat) % 65536 := by
  rw [BitVec.toNat_add, zext16_toNat]

theorem wordOf_hiByte_loByte_add_toNat (w : Word) (r : Byte) :
    (wordOf (hiByte w) (loByte w + r)).toNat = w.toNat / 256 * 256 + (w.toNat + r.toNat) % 256 := by
  rw [wordOf_toNat, hiByte_toNat, BitVec.toNat_add, loByte_toNat]
  omega

theorem hiByte_add_zext16_ne_iff (w : Word) (r : Byte) :
    hiByte (w + zext16 r) ≠ hiByte w ↔ 256 ≤ w.toNat % 256 + r.toNat := by
  rw [ne_eq, ← BitVec.toNat_inj, hiByte_toNat, hiByte_toNat, add_zext16_toNat]
  omega

/-- Without the carry into the high byte, the sum is 0x0100 too low exactly when there is a carry. -/
theorem wordOf_hiByte_loByte_add (w : Word) (r : Byte) : wordOf (hiByte w) (loByte w + r) =
    if 256 ≤ w.toNat % 256 + r.toNat then w + zext16 r - 0x0100#16 else w + zext16 r := by
  apply BitVec.eq_of_toNat_eq
  rw [wordOf_hiByte_loByte_add_toNat]
  split
  · rw [BitVec.toNat_sub, add_zext16_toNat, BitVec.toNat_ofNat]
    omega
  · rw [add_zext16_toNat]
    omega

end Sys2Proof

namespace Sys2Proof.Machine

variable {s : State} {m : MemOperand} {r : Byte}

/-! ## The resolver by its 16-bit index -/

theorem effectiveAddress_of_indexed (h : index16 m s = some r) :
    effectiveAddress m s = baseAddress m s + zext16 r := by
  simp [effectiveAddress, h]

theorem unfixedAddress_of_indexed (h : index16 m s = some r) :
    unfixedAddress m s = wordOf (hiByte (baseAddress m s)) (loByte (baseAddress m s) + r) := by
  simp [unfixedAddress, h]

theorem unfixedAddress_of_not_indexed (h : index16 m s = none) : unfixedAddress m s = effectiveAddress m s := by
  simp [unfixedAddress, effectiveAddress, h]

theorem effectiveAddress_toNat_of_indexed (h : index16 m s = some r) :
    (effectiveAddress m s).toNat = ((baseAddress m s).toNat + r.toNat) % 65536 := by
  rw [effectiveAddress_of_indexed h, add_zext16_toNat]

theorem unfixedAddress_toNat_of_indexed (h : index16 m s = some r) : (unfixedAddress m s).toNat =
    (baseAddress m s).toNat / 256 * 256 + ((baseAddress m s).toNat + r.toNat) % 256 := by
  rw [unfixedAddress_of_indexed h, wordOf_hiByte_loByte_add_toNat]

theorem pageCrossed_iff_of_indexed (h : index16 m s = some r) :
    pageCrossed m s = true ↔ 256 ≤ (baseAddress m s).toNat % 256 + r.toNat := by
  rw [pageCrossed, bne_iff_ne, effectiveAddress_of_indexed h, hiByte_add_zext16_ne_iff]

/-- The uncorrected address against the effective one, in every mode (R120, R122). -/
theorem unfixedAddress_eq (m : MemOperand) (s : State) : unfixedAddress m s =
    if pageCrossed m s = true then effectiveAddress m s - 0x0100#16 else effectiveAddress m s := by
  cases h : index16 m s with
  | none => simp [pageCrossed_of_not_indexed h, unfixedAddress_of_not_indexed h]
  | some r =>
    simp only [pageCrossed_iff_of_indexed h]
    rw [unfixedAddress_of_indexed h, effectiveAddress_of_indexed h, wordOf_hiByte_loByte_add]

/-! ## The zero-page pointer (R121, R122) -/

theorem pointerAt_toNat (s : State) (p : Byte) : (s.pointerAt p).toNat =
    (s.peek (zext16 (p + 1))).toNat * 256 + (s.peek (zext16 p)).toNat :=
  wordOf_toNat _ _

/-- A pointer at a sum of bytes, on the integers of the sum: both of its bytes are in the zero page. -/
theorem pointerAt_toNat_eq (s : State) (p : Byte) {n : Nat} (h : p.toNat = n % 256) : (s.pointerAt p).toNat =
    (s.peek (BitVec.ofNat 16 (n % 256))).toNat + 256 * (s.peek (BitVec.ofNat 16 ((n + 1) % 256))).toNat := by
  have hnext : (p + 1).toNat = (n + 1) % 256 := by
    rw [BitVec.toNat_add, h]
    exact Nat.mod_add_mod ..
  rw [pointerAt_toNat, zext16_eq_ofNat, zext16_eq_ofNat, hnext, h]
  omega

/-- Settles O25: the modes with a 16-bit index add it to their base, the others answer their base. -/
theorem effectiveAddresses : Obligations.EffectiveAddresses := by
  intro s ad w
  dsimp only
  refine ⟨zext16_toNat ad, (zext16_toNat _).trans (BitVec.toNat_add ..), (zext16_toNat _).trans (BitVec.toNat_add ..), rfl,
    effectiveAddress_toNat_of_indexed rfl, effectiveAddress_toNat_of_indexed rfl,
    pointerAt_toNat_eq s (ad + s.x) (BitVec.toNat_add ..), ?_⟩
  rw [effectiveAddress_toNat_of_indexed rfl, ← pointerAt_toNat_eq s ad (Nat.mod_eq_of_lt ad.isLt).symm]
  rfl

/-- Settles O26: a crossing is a carry out of the low byte, and the uncorrected address lacks just that carry. -/
theorem pageCrossingAndUncorrectedAddress : Obligations.PageCrossingAndUncorrectedAddress := by
  intro s ad w
  have hbase : (baseAddress (.izy ad) s).toNat =
    (s.peek (zext16 (ad + 1))).toNat * 256 + (s.peek (zext16 ad)).toNat := pointerAt_toNat s ad
  refine ⟨pageCrossed_iff_of_indexed rfl, pageCrossed_iff_of_indexed rfl, ?crossedIzy,
    pageCrossed_of_not_indexed rfl, pageCrossed_of_not_indexed rfl, pageCrossed_of_not_indexed rfl,
    pageCrossed_of_not_indexed rfl, pageCrossed_of_not_indexed rfl,
    unfixedAddress_toNat_of_indexed rfl, unfixedAddress_toNat_of_indexed rfl, ?unfixedIzy,
    fun m => unfixedAddress_eq m s⟩
  case crossedIzy =>
    rw [pageCrossed_iff_of_indexed rfl, hbase]
    omega
  case unfixedIzy =>
    rw [unfixedAddress_toNat_of_indexed rfl, hbase]
    omega

end Sys2Proof.Machine
end

section
/-! SUPPORT. Which opcode bytes an operation has (spec 30_encoding.md R95), and what the loads, stores, transfers and stack
operations do (41_load_store_transfer.md R150 to R165, 46_undocumented.md R309): the read and the write class at any operation
and mode of theirs, a push and a pull. -/

namespace Sys2Proof.Machine

/-! ## The registers after the fetch of the opcode, a bus read and a register write -/

@[simp] theorem begin_regs (s : State) (op : Byte) : (s.begin op).regs = { s.regs with pc := s.pc + 1 } := rfl
@[simp] theorem readCycle_regs (s : State) (w : Word) : (s.readCycle w).regs = s.regs := rfl
@[simp] theorem setFlags_regs (s : State) (f : Flags) : (s.setFlags f).regs = { s.regs with flags := f } := rfl
@[simp] theorem setSp_regs (s : State) (v : Byte) : (s.setSp v).regs = { s.regs with sp := v } := rfl

/-! ## The opcode bytes of an operation (30_encoding.md R95) -/

/-- The listed cells name the operation, and every cell of the map that names it is listed. -/
theorem encoded_of_cells {o : Operation} {l : List (Byte × Mode)}
    (h : (∀ p ∈ l, (descriptor p.1).operation = o ∧ (descriptor p.1).mode = p.2) ∧
      ∀ r c : Fin 16, opcodeMap[r][c].operation = o →
        (BitVec.ofFin (w := 4) r ++ BitVec.ofFin (w := 4) c, opcodeMap[r][c].mode) ∈ l) : Encoded o l := by
  obtain ⟨hlisted, hcells⟩ := h
  intro op m
  refine ⟨?_, hlisted (op, m)⟩
  rintro ⟨ho, rfl⟩
  have hcell := hcells (rowOf op) (columnOf op) ho
  rwa [rowOf_append_columnOf] at hcell

variable {i : Instr} {s : State} {m : MemOperand} {o : Operation} {v : Byte}

/-! ## The descriptors of the access classes (70_reset_and_hazards.md R456, R457) -/

theorem descriptor_operation_ne_brk (h : i.operation ≠ .brk) : (descriptor i.opcode).operation ≠ .brk :=
  (descriptor_opcode i).1 ▸ h

theorem baseCycles_of_cell {mode : Mode} {k : Nat} (h : descriptor i.opcode = cell o mode k) :
    (descriptor i.opcode).baseCycles = some k :=
  congrArg (·.baseCycles) h

theorem descriptor_of_read (hm : i.operand = .memory m) (hc : i.operation.accessClass = some .read) :
    (descriptor i.opcode).baseCycles = some (readBase m) ∧
      (descriptor i.opcode).extraOnCross = (index16 m s).isSome := by
  cases i <;> cases hm <;> cases hc <;> dsimp only [Instr.opcode] <;> exact ⟨rfl, rfl⟩

theorem descriptor_of_write (hm : i.operand = .memory m) (hc : i.operation.accessClass = some .write) :
    (descriptor i.opcode).baseCycles = some (writeBase m) ∧ (descriptor i.opcode).extraOnCross = false := by
  cases i <;> cases hm <;> cases hc <;> dsimp only [Instr.opcode] <;> exact ⟨rfl, rfl⟩

theorem opcodeMap_immediate_baseCycles (r c : Fin 16) (h : opcodeMap[r][c].mode = .immediate) :
    opcodeMap[r][c].baseCycles = some 2 := by
  revert r c; decide

theorem descriptor_of_immediate (h : i.operand = .immediate v) : (descriptor i.opcode).baseCycles = some 2 :=
  opcodeMap_immediate_baseCycles _ _ ((descriptor_opcode i).2.symm.trans (congrArg Operand.mode h))

/-! ## The read class and the write class at any operation -/

theorem flags_eq_of_regs {t : State} {p : Word} (h : t.regs = { s.regs with pc := p }) : t.flags = s.flags :=
  congrArg Regs.flags h

/-- An instruction that runs `f` on its operand byte in the read class (40_addressing.md R112) and immediate (R116), where `f`
leaves the registers `r` and I alone. -/
theorem exec_of_readOperation {f : Byte → State → State} {r : Byte → Regs}
    (ho : i.operation = o) (hc : o.accessClass = some .read) (hnop : o ≠ .nop)
    (hmemory : ∀ m op, meaning o (.memory m) op s = runRead op m f s)
    (himmediate : ∀ v op, meaning o (.immediate v) op s = runImmediate op v f s)
    (hquiet : ∀ v t, Quiet t (f v t))
    (hregs : ∀ v t, t.regs = { s.regs with pc := t.pc } → { (f v t).regs with pc := s.nextPc i } = r v)
    (hi : ∀ v, (r v).flags.i = s.flags.i) :
    ∃ v t, s.operandValue i.operand = some v ∧ exec i s = .next t ∧ s.SameMemory t ∧
      s.Ran t i (r v) s.flags.i (s.readTrace i) := by
  subst ho
  have hbrk := descriptor_operation_ne_brk (i := i) (by intro h; rw [h] at hc; cases hc)
  have hpoll (v t) (ht : t.regs = { s.regs with pc := t.pc }) :
      (if lagsPoll (descriptor i.opcode).operation then s.flags.i else (f v t).regs.flags.i) = s.flags.i := by
    rw [(congrArg (·.flags.i) (hregs v t ht)).trans (hi v), ite_self]
  rcases Form.memory_or_immediate_or_nop_of_read i.form_addressable hc with
    ⟨m, (hm : i.operand = .memory m)⟩ | ⟨v, (hv : i.operand = .immediate v)⟩ | ⟨-, h⟩
  · obtain ⟨hbase, hcross⟩ := descriptor_of_read (s := s) hm hc
    refine ⟨s.peek (effectiveAddress m s), ?_⟩
    obtain ⟨t, ht⟩ := exec_of_read hm (by rw [exec_eq_meaning, hm, hmemory]) hquiet hbrk hbase hcross
      (hregs _ _ operandRead_regs) (hpoll _ _ operandRead_regs)
    exact ⟨t, by rw [hm]; rfl, ht⟩
  · have hfetched : ((s.begin i.opcode).fetchByte v).regs =
        { s.regs with pc := ((s.begin i.opcode).fetchByte v).pc } := rfl
    obtain ⟨t, ht⟩ := exec_of_immediate hv (by rw [exec_eq_meaning, hv, himmediate]) hquiet hbrk
      (descriptor_of_immediate hv) (hregs _ _ hfetched) (hpoll _ _ hfetched)
    exact ⟨v, t, by rw [hv]; rfl, ht⟩
  · exact absurd h hnop

/-- An instruction of the write class that stores `value` of the registers at its effective address (R112). -/
theorem exec_of_storeOperation {value : State → Byte} (ho : i.operation = o) (hc : o.accessClass = some .write)
    (hmemory : ∀ m op, meaning o (.memory m) op s = runWrite op m value s) (hw : s.mem.wf = true) :
    ∃ m t, i.operand = .memory m ∧ exec i s = .next t ∧ s.Stored t (effectiveAddress m s) (value s) ∧
      s.Ran t i { s.regs with pc := s.nextPc i } s.flags.i (s.writeTrace i m (effectiveAddress m s) (value s)) := by
  subst ho
  obtain ⟨m, (hm : i.operand = .memory m)⟩ := Form.exists_memory_of_write i.form_addressable hc
  obtain ⟨hbase, hcross⟩ := descriptor_of_write hm hc
  obtain ⟨t, ht⟩ := exec_of_write hm (by rw [exec_eq_meaning, hm, hmemory]) hw
    (descriptor_operation_ne_brk (by intro h; rw [h] at hc; cases hc)) hbase hcross rfl
  exact ⟨m, t, hm, ht⟩

/-- Settles O27: each load runs its operation in the read class and on its immediate operand. -/
theorem loadsWriteRegister : Obligations.LoadsWriteRegister := by
  refine ⟨⟨encoded_of_cells (by decide), encoded_of_cells (by decide), encoded_of_cells (by decide)⟩,
    fun i s ho => ?lda, fun i s ho => ?ldx, fun i s ho => ?ldy⟩
  case lda =>
    exact exec_of_readOperation (f := opLda) ho rfl (by decide) (fun _ _ => rfl) (fun _ _ => rfl) opLda_quiet
      (fun v t ht => by rw [opLda_regs, ht, flags_eq_of_regs ht]) (fun _ => rfl)
  case ldx =>
    exact exec_of_readOperation (f := opLdx) ho rfl (by decide) (fun _ _ => rfl) (fun _ _ => rfl) opLdx_quiet
      (fun v t ht => by rw [opLdx_regs, ht, flags_eq_of_regs ht]) (fun _ => rfl)
  case ldy =>
    exact exec_of_readOperation (f := opLdy) ho rfl (by decide) (fun _ _ => rfl) (fun _ _ => rfl) opLdy_quiet
      (fun v t ht => by rw [opLdy_regs, ht, flags_eq_of_regs ht]) (fun _ => rfl)

/-- Settles O28: each store runs its source register in the write class. -/
theorem storesWriteMemory : Obligations.StoresWriteMemory := by
  refine ⟨⟨encoded_of_cells (by decide), encoded_of_cells (by decide), encoded_of_cells (by decide),
    encoded_of_cells (by decide)⟩, ?_⟩
  rintro i s v hw (⟨ho, rfl⟩ | ⟨ho, rfl⟩ | ⟨ho, rfl⟩ | ⟨ho, rfl⟩)
  · exact exec_of_storeOperation (value := State.a) ho rfl (fun _ _ => rfl) hw
  · exact exec_of_storeOperation (value := State.x) ho rfl (fun _ _ => rfl) hw
  · exact exec_of_storeOperation (value := State.y) ho rfl (fun _ _ => rfl) hw
  · exact exec_of_storeOperation (value := fun t => t.a &&& t.x) ho rfl (fun _ _ => rfl) hw

/-! ## Transfers, pushes and pulls -/

/-- Settles O29: each transfer runs its operation on registers in the implied form of 2 cycles. -/
theorem transfersMoveRegisters : Obligations.TransfersMoveRegisters := by
  refine ⟨⟨encoded_of_cells (by decide), encoded_of_cells (by decide), encoded_of_cells (by decide),
    encoded_of_cells (by decide), encoded_of_cells (by decide), encoded_of_cells (by decide)⟩, ?_⟩
  rintro i s r (⟨rfl, rfl⟩ | ⟨rfl, rfl⟩ | ⟨rfl, rfl⟩ | ⟨rfl, rfl⟩ | ⟨rfl, rfl⟩ | ⟨rfl, rfl⟩)
  · exact exec_of_implied (.inl rfl) rfl opTax_quiet (descriptor_operation_ne_brk (by decide))
      (baseCycles_of_cell descriptor_AA) (by simp [opTax_regs]) (by simp [opTax_regs])
  · exact exec_of_implied (.inl rfl) rfl opTay_quiet (descriptor_operation_ne_brk (by decide))
      (baseCycles_of_cell descriptor_A8) (by simp [opTay_regs]) (by simp [opTay_regs])
  · exact exec_of_implied (.inl rfl) rfl opTxa_quiet (descriptor_operation_ne_brk (by decide))
      (baseCycles_of_cell descriptor_8A) (by simp [opTxa_regs]) (by simp [opTxa_regs])
  · exact exec_of_implied (.inl rfl) rfl opTya_quiet (descriptor_operation_ne_brk (by decide))
      (baseCycles_of_cell descriptor_98) (by simp [opTya_regs]) (by simp [opTya_regs])
  · exact exec_of_implied (.inl rfl) rfl opTsx_quiet (descriptor_operation_ne_brk (by decide))
      (baseCycles_of_cell descriptor_BA) (by simp [opTsx_regs]) (by simp [opTsx_regs])
  · exact exec_of_implied (.inl rfl) rfl opTxs_quiet (descriptor_operation_ne_brk (by decide))
      (baseCycles_of_cell descriptor_9A) (by simp [opTxs_regs]) (by simp [opTxs_regs, State.regs_flags_i])

/-- An implied instruction of 3 cycles that pushes `value` of the registers (R162, R163). -/
theorem exec_of_push {value : State → Byte} (hx : exec i s = runImplied i.opcode (fun t => t.push (value t)) s)
    (hbrk : i.operation ≠ .brk) (hd : (descriptor i.opcode).baseCycles = some 3)
    (hv : value ((s.begin i.opcode).dummyRead (s.pc + 1)) = v) (hw : s.mem.wf = true) :
    ∃ t, exec i s = .next t ∧ s.Stored t (stackAddr s.sp) v ∧
      s.Ran t i { s.regs with sp := s.sp - 1, pc := s.pc + 1 } s.flags.i
        [⟨.read, s.pc, i.opcode⟩, s.rd (s.pc + 1), wr (stackAddr s.sp) v] := by
  have hnext : exec i s =
      .next ((((s.begin i.opcode).dummyRead (s.pc + 1)).push v).finish i.opcode s.flags.i false 0) := by
    rw [hx, ← hv]; rfl
  have hpeek (a : Word) := State.push_peek (s := (s.begin i.opcode).dummyRead (s.pc + 1)) (by simpa using hw) a v
  have hran := ran_finish (s := s) (i := i) (u := ((s.begin i.opcode).dummyRead (s.pc + 1)).push v) (crossed := false)
    (p := 0) (descriptor_operation_ne_brk hbrk) (by simp [State.hidden]) (by simp [State.platform]) rfl
    (by simp [realizedCycles, hd])
  refine ⟨_, hnext, fun a => ?_, ?_⟩
  · rw [State.finish_peek]
    exact hpeek a
  · simpa [State.regs, State.rd, wr] using hran

/-- The state in which the operation of an instruction that pulls runs: SP is advanced, the stack byte read. -/
def State.pulled (s : State) (i : Instr) : State := (pullAfterDummy ((s.begin i.opcode).dummyRead (s.pc + 1))).2

theorem pullAfterDummy_value :
    (pullAfterDummy ((s.begin i.opcode).dummyRead (s.pc + 1))).1 = s.peek (stackAddr (s.sp + 1)) := by
  simp [pullAfterDummy]

theorem pulled_eq : s.pulled i =
    ((((s.begin i.opcode).readCycle (s.pc + 1)).readCycle (stackAddr s.sp)).setSp (s.sp + 1)).readCycle
      (stackAddr (s.sp + 1)) := by
  simp [State.pulled, pullAfterDummy]

theorem pulled_regs : (s.pulled i).regs = { s.regs with sp := s.sp + 1, pc := s.pc + 1 } := by simp [pulled_eq]
theorem pulled_flags : (s.pulled i).flags = s.flags := by simp [pulled_eq]
theorem pulled_hidden : (s.pulled i).hidden = s.hidden := by simp [pulled_eq, State.hidden]
theorem pulled_platform : (s.pulled i).platform = s.platform := by simp [pulled_eq, State.platform]
theorem pulled_mem : (s.pulled i).mem = s.mem := by simp [pulled_eq]
theorem pulled_trace : (s.pulled i).trace =
    [⟨.read, s.pc, i.opcode⟩, s.rd (s.pc + 1), s.rd (stackAddr s.sp), s.rd (stackAddr (s.sp + 1))] := by
  simp [pulled_eq, State.rd]

/-- An implied instruction of 4 cycles that pulls a byte and runs the operation `f` on it (R164, R165). -/
theorem exec_of_pull {f : Byte → State → State} {r : Regs} {p : Bool}
    (hx : exec i s = runImplied i.opcode (fun t => f (pullAfterDummy t).1 (pullAfterDummy t).2) s)
    (hquiet : ∀ v t, Quiet t (f v t)) (hbrk : i.operation ≠ .brk) (hd : (descriptor i.opcode).baseCycles = some 4)
    (hr : (f (s.peek (stackAddr (s.sp + 1))) (s.pulled i)).regs = r)
    (hp : (if lagsPoll (descriptor i.opcode).operation then s.flags.i else r.flags.i) = p) :
    ∃ t, exec i s = .next t ∧ s.SameMemory t ∧
      s.Ran t i r p [⟨.read, s.pc, i.opcode⟩, s.rd (s.pc + 1), s.rd (stackAddr s.sp), s.rd (stackAddr (s.sp + 1))] := by
  have hnext : exec i s = .next ((f (s.peek (stackAddr (s.sp + 1))) (s.pulled i)).finish i.opcode s.flags.i false 0) := by
    rw [← pullAfterDummy_value (i := i)]
    exact hx
  have hq := hquiet (s.peek (stackAddr (s.sp + 1))) (s.pulled i)
  generalize f (s.peek (stackAddr (s.sp + 1))) (s.pulled i) = u at hnext hq hr
  obtain ⟨-, hhidden, hplatform, hmem, htrace⟩ := hq
  have hran := ran_finish (s := s) (i := i) (crossed := false) (p := 0) (descriptor_operation_ne_brk hbrk)
    (hhidden.trans pulled_hidden) (hplatform.trans pulled_platform) (htrace.trans pulled_trace)
    (by simp [realizedCycles, hd])
  refine ⟨_, hnext, fun a => ?_, ?_⟩
  · rw [State.finish_peek, State.peek_congr (hmem.trans pulled_mem)]
  · subst hr hp
    exact hran

/-- Settles O30: PHA pushes A and PHP the status byte, each in the shape of a push. -/
theorem pushesStoreOnStack : Obligations.PushesStoreOnStack := by
  refine ⟨⟨encoded_of_cells (by decide), encoded_of_cells (by decide)⟩, ?_⟩
  rintro i s v hw (⟨rfl, rfl⟩ | ⟨rfl, rfl⟩)
  · obtain ⟨t, hexec, hstored, hran⟩ := exec_of_push (i := .pha) (value := State.a) (v := s.a) rfl
      (by decide) (baseCycles_of_cell descriptor_48) (by simp) hw
    exact ⟨t, hexec, hstored, stackAddr_toNat _, hran⟩
  · obtain ⟨t, hexec, hstored, hran⟩ := exec_of_push (i := .php) (value := fun t => t.flags.pread true)
      (v := s.flags.pread true) rfl (by decide) (baseCycles_of_cell descriptor_08) (by simp) hw
    exact ⟨t, hexec, hstored, stackAddr_toNat _, hran⟩

/-- Settles O31: after the pull, PLA does what LDA does with its operand, and PLP loads the flags. -/
theorem pullsLoadFromStack : Obligations.PullsLoadFromStack := by
  refine ⟨⟨encoded_of_cells (by decide), encoded_of_cells (by decide)⟩, ?_⟩
  rintro i s r v (⟨rfl, rfl⟩ | ⟨rfl, rfl⟩)
  · exact exec_of_pull (f := opLda) rfl opLda_quiet (by decide) (baseCycles_of_cell descriptor_68)
      (by rw [opLda_regs, pulled_regs, pulled_flags]) rfl
  · exact exec_of_pull (f := fun v t => t.setFlags (Flags.pwrite v)) rfl (fun _ _ => ⟨rfl, rfl, rfl, rfl, rfl⟩)
      (by decide) (baseCycles_of_cell descriptor_28) (by rw [setFlags_regs, pulled_regs]; rfl) rfl

end Sys2Proof.Machine
end

section
/-! SUPPORT. When an instruction is refused (spec 42_arith_logic.md R183, 10_state.md R43): the operations of every class answer a
next state, so the decimal guard alone refuses. -/

namespace Sys2Proof.Machine

variable {i : Instr} {s : State} {o : Operation} {r : Operand} {op : Byte}

/-! ## The guarded operations -/

theorem meaning_of_guarded (h : o ∈ [Operation.adc, .sbc, .rra, .isc, .arr]) :
    meaning o r op s = s.decimalGuard (operandMeaning o r op s) := by
  simp only [List.mem_cons, List.not_mem_nil, or_false] at h
  obtain rfl | rfl | rfl | rfl | rfl := h <;> rfl

theorem meaning_of_not_guarded (h : o ∉ [Operation.adc, .sbc, .rra, .isc, .arr]) :
    meaning o r op s = operandMeaning o r op s := by
  unfold meaning
  split
  case h_6 => rfl
  all_goals exact absurd (by decide) h

/-! ## Past the guard every operation completes -/

theorem impliedMeaning_completes : ∃ t, impliedMeaning o op s = .next t := by
  unfold impliedMeaning
  split <;> exact ⟨_, rfl⟩

theorem memoryMeaning_completes (m : MemOperand) : ∃ t, memoryMeaning o m op s = .next t := by
  unfold memoryMeaning
  split
  case h_7 => split <;> exact ⟨_, rfl⟩
  all_goals exact ⟨_, rfl⟩

theorem runBranch_completes (off : Byte) (cond : Flags → Bool) : ∃ t, runBranch op off cond s = .next t := by
  unfold runBranch
  dsimp only
  split <;> exact ⟨_, rfl⟩

theorem operandMeaning_completes : ∃ t, operandMeaning o r op s = .next t := by
  cases r with
  | implied => exact impliedMeaning_completes
  | accumulator => exact ⟨_, rfl⟩
  | immediate v => exact ⟨_, rfl⟩
  | memory m => exact memoryMeaning_completes m
  | indirect w => exact ⟨_, rfl⟩
  | relative off => exact runBranch_completes off _

/-! ## Instructions and steps -/

theorem exec_refused (hmode : s.config.decimalMode = .reject) (hd : s.flags.d = true)
    (ho : i.operation ∈ [Operation.adc, .sbc, .rra, .isc, .arr]) : exec i s = .refused .decimalUnsupported := by
  rw [exec_eq_meaning, meaning_of_guarded ho, State.decimalGuard_refuses hmode hd]

theorem exec_completes (h : ¬(s.config.decimalMode = .reject ∧ s.flags.d = true ∧
    i.operation ∈ [Operation.adc, .sbc, .rra, .isc, .arr])) : ∃ t, exec i s = .next t := by
  rw [exec_eq_meaning]
  by_cases ho : i.operation ∈ [Operation.adc, .sbc, .rra, .isc, .arr]
  · have haccepts : ¬(s.config.decimalMode = .reject ∧ s.flags.d = true) := fun ⟨hmode, hd⟩ => h ⟨hmode, hd, ho⟩
    rw [meaning_of_guarded ho, State.decimalGuard, if_neg haccepts]
    exact operandMeaning_completes
  · rw [meaning_of_not_guarded ho]
    exact operandMeaning_completes

/-- The boundary leaves the parameters, so the instruction at PC runs under NMOS too; no other step has a guard. -/
theorem step_completes (hmode : s.config.decimalMode = .nmos) : ∃ t, step s = .next t := by
  obtain ⟨queue, -, hs⟩ | ⟨irq, nmi, queue, -, ⟨-, hs⟩ | ⟨-, ⟨-, -, hs⟩ | ⟨-, -, -, -, hs⟩ | ⟨-, hs⟩⟩⟩ := step_cases s
  case inr.inr.inr.inr =>
    have hlatched : (s.latched irq nmi queue).config.decimalMode = .nmos := hmode
    rw [hs]
    exact exec_completes (by simp [hlatched])
  all_goals exact ⟨_, hs⟩

/-- Settles O21: the guard refuses its five operations with D = 1 under REJECT, and everything else completes. -/
theorem refusalOnlyInRejectMode : Obligations.RefusalOnlyInRejectMode := by
  refine ⟨fun i s => ?_, fun s => step_completes⟩
  split
  next h =>
    obtain ⟨hmode, hd, ho⟩ := h
    exact exec_refused hmode hd ho
  next h => exact exec_completes h

end Sys2Proof.Machine
end

section
/-! SUPPORT. The byte arithmetic of the model is that of the rules in integers (spec 42_arith_logic.md R180 to R185, R190), and on
decimal digits it is decimal addition and subtraction. -/

namespace Sys2Proof.Machine

variable (a m : Byte) (f : Flags)

/-! ## Bytes in integers -/

theorem loNibble_toNat : (a &&& 0x0F).toNat = a.toNat % 16 :=
  Nat.and_two_pow_sub_one_eq_mod a.toNat 4

theorem hiNibble_eq_shifts : a &&& (0xF0 : Byte) = a >>> 4 <<< 4 := by
  ext k hk
  interval_cases k <;> simp

theorem hiNibble_toNat : (a &&& 0xF0).toNat = a.toNat / 16 * 16 := by
  have ha := a.isLt
  rw [hiNibble_eq_shifts, BitVec.toNat_shiftLeft, BitVec.toNat_ushiftRight, Nat.shiftLeft_eq,
    Nat.shiftRight_eq_div_pow]
  omega

theorem signBit_eq_decide : a.getLsbD 7 = decide (128 ≤ a.toNat) := BitVec.msb_eq_decide a

theorem ofNat_beq_zero (k : Nat) : (BitVec.ofNat 8 k == 0) = decide (k % 256 = 0) := by
  rw [beq_eq_decide]
  simp [← BitVec.toNat_inj]

theorem ofInt_eq_of_emod {x y : Int} (h : x % 256 = y % 256) : BitVec.ofInt 8 x = BitVec.ofInt 8 y :=
  BitVec.eq_of_toNat_eq (by simp [BitVec.toNat_ofInt, h])

/-! ## Add (R180, R181, R184) -/

theorem adcByte_eq_rule : adcByte a m f = addRule a m f := by
  unfold adcByte addRule
  split
  · simp only [adcDecimal, loNibble_toNat, hiNibble_toNat, ofNat_beq_zero, Bool.decide_or]
  · rfl

/-! ## Subtract (R182, R185): the sum with the complement is the difference plus 256 -/

theorem sbcBinary_result :
    (sbcBinary a m f.c f).1 = BitVec.ofInt 8 ((a.toNat : Int) - m.toNat - (1 - f.c.toNat : Nat)) := by
  have hm := m.isLt
  have hc := f.c.toNat_le
  simp only [sbcBinary, addBinary, BitVec.toNat_not, ← BitVec.ofInt_natCast]
  apply ofInt_eq_of_emod
  omega

theorem sbcBinary_carry : (sbcBinary a m f.c f).2.c = decide (m.toNat + (1 - f.c.toNat) ≤ a.toNat) := by
  have hm := m.isLt
  have hc := f.c.toNat_le
  simp only [sbcBinary, addBinary, BitVec.toNat_not, decide_eq_decide]
  omega

theorem sbcBinary_overflow : (sbcBinary a m f.c f).2.v =
    (decide (a.toInt - m.toInt - (1 - f.c.toNat : Nat) < -128) ||
      decide (127 < a.toInt - m.toInt - (1 - f.c.toNat : Nat))) := by
  have ha := a.isLt
  have hm := m.isLt
  have hc := f.c.toNat_le
  simp only [sbcBinary, addBinary, signBit_eq_decide, BitVec.toNat_not, BitVec.toNat_ofNat,
    BitVec.toInt_eq_toNat_cond]
  rw [Bool.eq_iff_iff]
  simp only [Bool.and_eq_true, beq_iff_eq, bne_iff_ne, ne_eq, decide_eq_decide, Bool.or_eq_true, decide_eq_true_eq]
  split_ifs <;> omega

theorem sbcBinary_flags : (sbcBinary a m f.c f).2 = (subRule a m f).2 := by
  have hflags : (sbcBinary a m f.c f).2 = { f with
      n := (sbcBinary a m f.c f).1.getLsbD 7
      v := (sbcBinary a m f.c f).2.v
      z := (sbcBinary a m f.c f).1 == 0
      c := (sbcBinary a m f.c f).2.c } := rfl
  rw [hflags, sbcBinary_result, sbcBinary_overflow, sbcBinary_carry, subRule]
  split <;> rfl

theorem sbcDecimal_result (hd : f.d = true) : (sbcDecimal a m f.c f).1 = (subRule a m f).1 := by
  have hc := f.c.toNat_le
  have hdigit : ((a.toNat % 16 : Nat) : Int) - (m.toNat % 16 : Nat) + f.c.toNat - 1 =
      (a.toNat % 16 : Nat) - (m.toNat % 16 : Nat) - (1 - f.c.toNat : Nat) := by
    omega
  simp only [sbcDecimal, subRule, hd, if_true, loNibble_toNat, hiNibble_toNat, hdigit]

theorem sbcByte_eq_rule : sbcByte a m f = subRule a m f := by
  unfold sbcByte
  split
  next hd => exact Prod.ext (sbcDecimal_result a m f hd) (sbcBinary_flags a m f)
  next hd =>
    refine Prod.ext ?_ (sbcBinary_flags a m f)
    rw [sbcBinary_result, subRule, if_neg hd]

/-! ## Compare (R190) -/

theorem compareFlags_eq_rule : compareFlags a m f = compareRule a m f := by
  have hm := m.isLt
  have hdiff : BitVec.ofNat 8 (a.toNat + (~~~m).toNat + 1) = a - m := by
    apply BitVec.eq_of_toNat_eq
    rw [BitVec.toNat_ofNat, BitVec.toNat_not, BitVec.toNat_sub]
    omega
  have hcarry : 256 ≤ a.toNat + (~~~m).toNat + 1 ↔ m.toNat ≤ a.toNat := by
    rw [BitVec.toNat_not]
    omega
  simp only [compareFlags, compareRule, Flags.setNZ, hdiff, hcarry]

/-! ## Decimal digits -/

variable {f} {p q : Nat}

theorem bcd_toNat (hp : p < 100) : (bcd p).toNat = p / 10 * 16 + p % 10 := by
  rw [bcd, BitVec.toNat_ofNat]
  omega

theorem bcd_tens (hp : p < 100) : (bcd p).toNat / 16 = p / 10 := by
  rw [bcd_toNat hp]
  omega

theorem bcd_ones (hp : p < 100) : (bcd p).toNat % 16 = p % 10 := by
  rw [bcd_toNat hp]
  omega

/-! The digits of a sum and of a difference modulo 100, with the carry and the borrow out of each digit -/

theorem sum_tens {c : Nat} (hp : p < 100) (hq : q < 100) (hc : c ≤ 1) : (p + q + c) % 100 / 10 =
    p / 10 + q / 10 + (if 10 ≤ p % 10 + q % 10 + c then 1 else 0) - (if 100 ≤ p + q + c then 10 else 0) := by
  split <;> split <;> omega

theorem sum_ones {c : Nat} (hc : c ≤ 1) : (p + q + c) % 100 % 10 =
    p % 10 + q % 10 + c - (if 10 ≤ p % 10 + q % 10 + c then 10 else 0) := by
  split <;> omega

theorem difference_tens {b : Nat} (hp : p < 100) (hq : q < 100) (hb : b ≤ 1) : (p + 100 - q - b) % 100 / 10 =
    p / 10 + (if p < q + b then 10 else 0) - q / 10 - (if p % 10 < q % 10 + b then 1 else 0) := by
  split <;> split <;> omega

theorem difference_ones {b : Nat} (hq : q < 100) (hb : b ≤ 1) : (p + 100 - q - b) % 100 % 10 =
    p % 10 + (if p % 10 < q % 10 + b then 10 else 0) - q % 10 - b := by
  split <;> omega

theorem addRule_bcd (hd : f.d = true) (hp : p < 100) (hq : q < 100) :
    (addRule (bcd p) (bcd q) f).1 = bcd ((p + q + f.c.toNat) % 100) ∧
      (addRule (bcd p) (bcd q) f).2.c = decide (100 ≤ p + q + f.c.toNat) := by
  have hc := f.c.toNat_le
  simp only [addRule, hd, if_true, bcd_tens hp, bcd_tens hq, bcd_ones hp, bcd_ones hq]
  constructor
  · apply BitVec.eq_of_toNat_eq
    rw [BitVec.toNat_ofNat, bcd_toNat (Nat.mod_lt _ (by decide)), sum_tens hp hq hc, sum_ones hc]
    split_ifs <;> omega
  · rw [decide_eq_decide]
    split_ifs <;> omega

theorem subRule_bcd (hd : f.d = true) (hp : p < 100) (hq : q < 100) :
    (subRule (bcd p) (bcd q) f).1 = bcd ((p + 100 - q - (1 - f.c.toNat)) % 100) ∧
      (subRule (bcd p) (bcd q) f).2.c = decide (q + (1 - f.c.toNat) ≤ p) := by
  have hb : 1 - f.c.toNat ≤ 1 := Nat.sub_le ..
  simp only [subRule, hd, if_true]
  constructor
  · rw [bcd_tens hp, bcd_tens hq, bcd_ones hp, bcd_ones hq, bcd, difference_tens hp hq hb, difference_ones hq hb,
      ← BitVec.ofInt_natCast]
    apply ofInt_eq_of_emod
    split_ifs <;> omega
  · rw [decide_eq_decide, bcd_toNat hp, bcd_toNat hq]
    omega

end Sys2Proof.Machine
end

section
/-! SUPPORT. What add, subtract, logic, bit test and compare do (spec 42_arith_logic.md R180 to R193, 46_undocumented.md R320): each
operation in the read class, with the result the rules give. -/

namespace Sys2Proof.Machine

variable {i : Instr} {s t : State} {p : Word}

theorem a_eq_of_regs (h : t.regs = { s.regs with pc := p }) : t.a = s.a := congrArg Regs.a h
theorem x_eq_of_regs (h : t.regs = { s.regs with pc := p }) : t.x = s.x := congrArg Regs.x h
theorem y_eq_of_regs (h : t.regs = { s.regs with pc := p }) : t.y = s.y := congrArg Regs.y h

/-- Settles O32: ADC passes the guard and runs the add rule in the read class and on its immediate operand. -/
theorem addWithCarry : Obligations.AddWithCarry := by
  refine ⟨encoded_of_cells (by decide), fun i s ho haccepts => ?_⟩
  exact exec_of_readOperation (f := opAdc) ho rfl (by decide) (fun _ _ => State.decimalGuard_accepts haccepts)
    (fun _ _ => State.decimalGuard_accepts haccepts) opAdc_quiet
    (fun v t ht => by rw [opAdc_regs, ht, a_eq_of_regs ht, flags_eq_of_regs ht, adcByte_eq_rule])
    (fun v => by rw [← adcByte_eq_rule, adcByte_i])

/-- Settles O33: SBC passes the guard and runs the subtract rule in the read class and on its immediate operands. -/
theorem subtractWithBorrow : Obligations.SubtractWithBorrow := by
  refine ⟨encoded_of_cells (by decide), fun i s ho haccepts => ?_⟩
  exact exec_of_readOperation (f := opSbc) ho rfl (by decide) (fun _ _ => State.decimalGuard_accepts haccepts)
    (fun _ _ => State.decimalGuard_accepts haccepts) opSbc_quiet
    (fun v t ht => by rw [opSbc_regs, ht, a_eq_of_regs ht, flags_eq_of_regs ht, sbcByte_eq_rule])
    (fun v => by rw [← sbcByte_eq_rule, sbcByte_i])

/-- Settles O34: the add and subtract rules of ADC and SBC, on bytes that hold decimal digits. -/
theorem decimalArithmeticIsRightOnBcd : Obligations.DecimalArithmeticIsRightOnBcd := by
  intro i s p q hd hmode hp hq ha hoperand
  refine ⟨fun ho => ?adc, fun ho => ?sbc⟩
  case adc =>
    obtain ⟨v, t, hv, hexec, -, hran⟩ := addWithCarry.2 i s ho (.inl hmode)
    obtain rfl : bcd q = v := Option.some.inj (hoperand.symm.trans hv)
    obtain ⟨hresult, hcarry⟩ := addRule_bcd hd hp hq
    rw [← ha] at hresult hcarry
    exact ⟨t, hexec, (congrArg Regs.a hran.regs).trans hresult, (congrArg (·.flags.c) hran.regs).trans hcarry⟩
  case sbc =>
    obtain ⟨v, t, hv, hexec, -, hran⟩ := subtractWithBorrow.2 i s ho (.inl hmode)
    obtain rfl : bcd q = v := Option.some.inj (hoperand.symm.trans hv)
    obtain ⟨hresult, hcarry⟩ := subRule_bcd hd hp hq
    rw [← ha] at hresult hcarry
    exact ⟨t, hexec, (congrArg Regs.a hran.regs).trans hresult, (congrArg (·.flags.c) hran.regs).trans hcarry⟩

/-- Settles O35: each logic operation runs in the read class and on its immediate operand. -/
theorem logicOperations : Obligations.LogicOperations := by
  refine ⟨⟨encoded_of_cells (by decide), encoded_of_cells (by decide), encoded_of_cells (by decide)⟩, ?_⟩
  rintro i s f (⟨ho, rfl⟩ | ⟨ho, rfl⟩ | ⟨ho, rfl⟩)
  · exact exec_of_readOperation (f := opAnd) ho rfl (by decide) (fun _ _ => rfl) (fun _ _ => rfl) opAnd_quiet
      (fun v t ht => by rw [opAnd_regs, ht, a_eq_of_regs ht, flags_eq_of_regs ht]) (fun _ => rfl)
  · exact exec_of_readOperation (f := opOra) ho rfl (by decide) (fun _ _ => rfl) (fun _ _ => rfl) opOra_quiet
      (fun v t ht => by rw [opOra_regs, ht, a_eq_of_regs ht, flags_eq_of_regs ht]) (fun _ => rfl)
  · exact exec_of_readOperation (f := opEor) ho rfl (by decide) (fun _ _ => rfl) (fun _ _ => rfl) opEor_quiet
      (fun v t ht => by rw [opEor_regs, ht, a_eq_of_regs ht, flags_eq_of_regs ht]) (fun _ => rfl)

/-- Settles O37: each compare runs the compare rule on its register, past no guard, so whatever D is. -/
theorem comparesSetFlags : Obligations.ComparesSetFlags := by
  refine ⟨⟨encoded_of_cells (by decide), encoded_of_cells (by decide), encoded_of_cells (by decide)⟩, ?_⟩
  rintro i s r (⟨ho, rfl⟩ | ⟨ho, rfl⟩ | ⟨ho, rfl⟩)
  · exact exec_of_readOperation (f := opCmp) ho rfl (by decide) (fun _ _ => rfl) (fun _ _ => rfl) opCmp_quiet
      (fun v t ht => by rw [opCmp_regs, ht, a_eq_of_regs ht, flags_eq_of_regs ht, compareFlags_eq_rule]) (fun _ => rfl)
  · exact exec_of_readOperation (f := opCpx) ho rfl (by decide) (fun _ _ => rfl) (fun _ _ => rfl) opCpx_quiet
      (fun v t ht => by rw [opCpx_regs, ht, x_eq_of_regs ht, flags_eq_of_regs ht, compareFlags_eq_rule]) (fun _ => rfl)
  · exact exec_of_readOperation (f := opCpy) ho rfl (by decide) (fun _ _ => rfl) (fun _ _ => rfl) opCpy_quiet
      (fun v t ht => by rw [opCpy_regs, ht, y_eq_of_regs ht, flags_eq_of_regs ht, compareFlags_eq_rule]) (fun _ => rfl)

theorem bit_encoded : Encoded .bit [(0x24, .zeropage), (0x2C, .absolute)] := encoded_of_cells (by decide)

/-- BIT has no immediate opcode byte (R189). -/
theorem exists_memory_of_bit (ho : i.operation = .bit) : ∃ m, i.operand = .memory m := by
  obtain ⟨hoperation, hmode⟩ := descriptor_opcode i
  have hcell := (bit_encoded i.opcode i.operand.mode).mp ⟨hoperation ▸ ho, hmode.symm⟩
  rcases Form.memory_or_immediate_or_nop_of_read i.form_addressable (congrArg Operation.accessClass ho) with
    hm | ⟨v, (hv : i.operand = .immediate v)⟩ | ⟨-, (hnop : i.operation = .nop)⟩
  · exact hm
  · rw [hv] at hcell
    simp [Operand.mode] at hcell
  · cases ho.symm.trans hnop

/-- Settles O36: BIT runs its test in the read class, on a memory operand. -/
theorem bitTestSetsFlags : Obligations.BitTest := by
  refine ⟨bit_encoded, fun i s ho => ?_⟩
  obtain ⟨m, hm⟩ := exists_memory_of_bit ho
  obtain ⟨v, t, hv, hexec⟩ := exec_of_readOperation (s := s) (f := opBit)
    (r := fun v => { s.regs with pc := s.nextPc i, flags := bitTest s.a v s.flags }) ho rfl (by decide)
    (fun _ _ => rfl) (fun _ _ => rfl) opBit_quiet
    (fun v t ht => by rw [opBit_regs, ht, a_eq_of_regs ht, flags_eq_of_regs ht]) (fun _ => rfl)
  rw [hm] at hv
  obtain rfl := Option.some.inj hv
  exact ⟨m, t, hm, hexec⟩

end Sys2Proof.Machine
end

section
/-! SUPPORT. What increment, decrement, shift and rotate do (spec 43_incdec_shift.md R220 to R230): the read-modify-write class at
any operation and mode of its, and the accumulator form; each operation with the result the rules give. -/

namespace Sys2Proof.Machine

variable {i : Instr} {s u : State} {m : MemOperand} {o : Operation} {v w r : Byte} {c : Bool}

/-! ## The descriptors of the read-modify-write class (70_reset_and_hazards.md R456) -/

theorem descriptor_of_modify (hm : i.operand = .memory m) (hc : i.operation.accessClass = some .readModifyWrite) :
    (descriptor i.opcode).baseCycles = some (writeBase m + 2) ∧ (descriptor i.opcode).extraOnCross = false := by
  cases i <;> cases hm <;> cases hc <;> dsimp only [Instr.opcode] <;> exact ⟨rfl, rfl⟩

theorem descriptor_operation_ne_brk_of_modify (hc : i.operation.accessClass = some .readModifyWrite) :
    (descriptor i.opcode).operation ≠ .brk :=
  descriptor_operation_ne_brk fun h => by rw [h] at hc; cases hc

theorem opcodeMap_accumulator_baseCycles (r c : Fin 16) (h : opcodeMap[r][c].mode = .accumulator) :
    opcodeMap[r][c].baseCycles = some 2 := by
  revert r c; decide

theorem descriptor_of_accumulator (h : i.operand = .accumulator) : (descriptor i.opcode).baseCycles = some 2 :=
  opcodeMap_accumulator_baseCycles _ _ ((descriptor_opcode i).2.symm.trans (congrArg Operand.mode h))

/-- A read-modify-write operation other than the shifts has a memory operand only (40_addressing.md R113). -/
theorem exists_memory_of_modify (hc : i.operation.accessClass = some .readModifyWrite)
    (ho : i.operation ∉ [Operation.asl, .lsr, .rol, .ror]) : ∃ m, i.operand = .memory m :=
  (Form.memory_or_accumulator_of_modify i.form_addressable hc).resolve_right fun hacc =>
    ho (Instr.shift_of_accumulator hacc)

theorem Quiet.setA (h : Quiet s u) (v : Byte) : Quiet s (u.setA v) := ⟨h.pc, h.hidden, h.platform, h.mem, h.trace⟩

/-! ## The read-modify-write class and the accumulator form at any operation -/

section Operation

variable {f : Byte → State → Byte × State} {regs : Regs} (ho : i.operation = o)
  (hc : o.accessClass = some .readModifyWrite) (hquiet : ∀ v t, Quiet t (f v t).2) (hi : regs.flags.i = s.flags.i)
include ho hc hquiet hi

/-- An instruction that runs `f` on its operand byte in the read-modify-write class (40_addressing.md R112), where `f` answers
`w` and leaves the registers `regs` and I alone. -/
theorem exec_of_modifyOperation (hm : i.operand = .memory m)
    (hmemory : ∀ op, meaning o (.memory m) op s = runModify op m f s) (hw : s.mem.wf = true)
    (hresult : ∀ t, t.regs = { s.regs with pc := t.pc } → (f (s.peek (effectiveAddress m s)) t).1 = w ∧
      { (f (s.peek (effectiveAddress m s)) t).2.regs with pc := s.nextPc i } = regs) :
    ∃ t, exec i s = .next t ∧ s.Stored t (effectiveAddress m s) w ∧
      s.Ran t i regs s.flags.i (s.modifyTrace i m w) := by
  subst ho
  obtain ⟨hbase, hcross⟩ := descriptor_of_modify hm hc
  obtain ⟨hvalue, hregs⟩ := hresult _ operandModified_regs
  exact exec_of_modify hm (by rw [exec_eq_meaning, hm, hmemory]) hquiet hw
    (descriptor_operation_ne_brk_of_modify hc) hbase hcross hvalue hregs
    (by rw [(congrArg (·.flags.i) hregs).trans hi, ite_self])

/-- An instruction that runs `f` on A in the accumulator form (R115). -/
theorem exec_of_accumulatorOperation (hacc : i.operand = .accumulator)
    (haccumulator : ∀ op, meaning o .accumulator op s = runAccumulator op f s)
    (hresult : ∀ t, t.regs = { s.regs with pc := t.pc } →
      { (f s.a t).2.regs with a := (f s.a t).1, pc := s.nextPc i } = regs) :
    ∃ t, exec i s = .next t ∧ s.SameMemory t ∧ s.Ran t i regs s.flags.i (s.readTrace i) := by
  subst ho
  have hnext : s.nextPc i = s.pc + 1 := by rw [State.nextPc, Instr.length, hacc]; rfl
  have hregs := hresult ((s.begin i.opcode).dummyRead (s.pc + 1)) rfl
  rw [hnext] at hregs
  refine exec_of_implied (f := fun t => (f t.a t).2.setA (f t.a t).1) (.inr hacc)
    (by rw [exec_eq_meaning, hacc, haccumulator]; rfl) (fun t => (hquiet t.a t).setA _)
    (descriptor_operation_ne_brk_of_modify hc) (descriptor_of_accumulator hacc) hregs ?_
  split
  · rfl
  · exact (congrArg (·.flags.i) hregs).trans hi

end Operation

/-! ## Increment and decrement -/

/-- Settles O38: INC and DEC, which have no accumulator form, run their operation in the read-modify-write class. -/
theorem incrementDecrementMemory : Obligations.IncrementDecrementMemory := by
  refine ⟨⟨encoded_of_cells (by decide), encoded_of_cells (by decide)⟩, ?_⟩
  rintro i s d hw (⟨ho, rfl⟩ | ⟨ho, rfl⟩)
  · obtain ⟨m, hm⟩ := exists_memory_of_modify (congrArg Operation.accessClass ho) (by rw [ho]; decide)
    exact ⟨m, exists_and_left.mpr ⟨hm, exec_of_modifyOperation (f := opInc) ho rfl opInc_quiet rfl hm (fun _ => rfl) hw
      (fun t ht => ⟨rfl, by rw [opInc_regs, ht, flags_eq_of_regs ht]⟩)⟩⟩
  · obtain ⟨m, hm⟩ := exists_memory_of_modify (congrArg Operation.accessClass ho) (by rw [ho]; decide)
    refine ⟨m, exists_and_left.mpr ⟨hm, ?_⟩⟩
    rw [← BitVec.sub_eq_add_neg]
    exact exec_of_modifyOperation (f := opDec) ho rfl opDec_quiet rfl hm (fun _ => rfl) hw
      (fun t ht => ⟨rfl, by rw [opDec_regs, ht, flags_eq_of_regs ht]⟩)

/-- Settles O39: each runs its operation on registers in the implied form of 2 cycles. -/
theorem incrementDecrementRegisters : Obligations.IncrementDecrementRegisters := by
  refine ⟨⟨encoded_of_cells (by decide), encoded_of_cells (by decide), encoded_of_cells (by decide),
    encoded_of_cells (by decide)⟩, ?_⟩
  rintro i s r (⟨rfl, rfl⟩ | ⟨rfl, rfl⟩ | ⟨rfl, rfl⟩ | ⟨rfl, rfl⟩)
  · exact exec_of_implied (.inl rfl) rfl opInx_quiet (descriptor_operation_ne_brk (by decide))
      (baseCycles_of_cell descriptor_E8) (by simp [opInx_regs]) (by simp [opInx_regs])
  · exact exec_of_implied (.inl rfl) rfl opIny_quiet (descriptor_operation_ne_brk (by decide))
      (baseCycles_of_cell descriptor_C8) (by simp [opIny_regs]) (by simp [opIny_regs])
  · exact exec_of_implied (.inl rfl) rfl opDex_quiet (descriptor_operation_ne_brk (by decide))
      (baseCycles_of_cell descriptor_CA) (by simp [opDex_regs]) (by simp [opDex_regs])
  · exact exec_of_implied (.inl rfl) rfl opDey_quiet (descriptor_operation_ne_brk (by decide))
      (baseCycles_of_cell descriptor_88) (by simp [opDey_regs]) (by simp [opDey_regs])

/-! ## The shifted byte in integers (R230) -/

theorem shiftLeft_one_eq_ofNat (v : Byte) : v <<< 1 = BitVec.ofNat 8 (2 * v.toNat) := by
  apply BitVec.eq_of_toNat_eq
  rw [BitVec.toNat_shiftLeft, BitVec.toNat_ofNat, Nat.shiftLeft_eq, Nat.mul_comm]

theorem shiftRight_one_eq_ofNat (v : Byte) : v >>> 1 = BitVec.ofNat 8 (v.toNat / 2) := by
  have hv := v.isLt
  apply BitVec.eq_of_toNat_eq
  rw [BitVec.toNat_ushiftRight, BitVec.toNat_ofNat, Nat.shiftRight_eq_div_pow]
  omega

theorem zeroExtend_ofBool_toNat (c : Bool) : ((BitVec.ofBool c).zeroExtend 8).toNat = c.toNat := by
  cases c <;> rfl

/-- The carry lands in the vacated bit 0, so the OR is a sum. -/
theorem rol_result (v : Byte) (f : Flags) : (rol v f).1 = BitVec.ofNat 8 (2 * v.toNat + f.c.toNat) := by
  have hc := f.c.toNat_le
  have hdisjoint := Nat.two_pow_add_eq_or_of_lt (i := 1) (b := f.c.toNat) (by omega) (v.toNat % 128)
  have hshifted : 2 * v.toNat % 256 = 2 ^ 1 * (v.toNat % 128) := by omega
  apply BitVec.eq_of_toNat_eq
  rw [rol, shiftLeft_one_eq_ofNat, BitVec.toNat_or, zeroExtend_ofBool_toNat, BitVec.toNat_ofNat, BitVec.toNat_ofNat]
  rw [hshifted, ← hdisjoint]
  omega

/-- The carry lands in the vacated bit 7, so the OR is a sum. -/
theorem ror_result (v : Byte) (f : Flags) : (ror v f).1 = BitVec.ofNat 8 (v.toNat / 2 + 128 * f.c.toNat) := by
  have hv := v.isLt
  have hc := f.c.toNat_le
  have hdisjoint := Nat.two_pow_add_eq_or_of_lt (i := 7) (b := v.toNat / 2) (by omega) f.c.toNat
  have hcarry : ((BitVec.ofBool f.c).zeroExtend 8 <<< 7).toNat = 2 ^ 7 * f.c.toNat := by
    rw [BitVec.toNat_shiftLeft, zeroExtend_ofBool_toNat, Nat.shiftLeft_eq]
    omega
  apply BitVec.eq_of_toNat_eq
  rw [ror, BitVec.toNat_or, hcarry, BitVec.toNat_ushiftRight, Nat.shiftRight_eq_div_pow, Nat.or_comm, ← hdisjoint,
    BitVec.toNat_ofNat]
  omega

/-! ## Shift and rotate -/

/-- A shift or rotate `f`, whose result on `v` is `r` with carry `c`, on A or on memory. -/
theorem exec_of_shiftOperation {f : Byte → State → Byte × State} (ho : i.operation = o)
    (hc : o.accessClass = some .readModifyWrite)
    (hmemory : ∀ m op, meaning o (.memory m) op s = runModify op m f s)
    (haccumulator : ∀ op, meaning o .accumulator op s = runAccumulator op f s)
    (hquiet : ∀ v t, Quiet t (f v t).2) (hw : s.mem.wf = true)
    (hv : i.operand = .accumulator ∧ v = s.a ∨ ∃ m, i.operand = .memory m ∧ v = s.peek (effectiveAddress m s))
    (hresult : ∀ t, t.flags = s.flags → (f v t).1 = r ∧
      (f v t).2.regs = { t.regs with flags := { s.flags with n := r.getLsbD 7, z := r == 0, c := c } }) :
    ∃ t, exec i s = .next t ∧
      let regs := { s.regs with
        pc := s.nextPc i, flags := { s.flags with n := r.getLsbD 7, z := r == 0, c := c } }
      match i.operand with
      | .memory m => s.Stored t (effectiveAddress m s) r ∧ s.Ran t i regs s.flags.i (s.modifyTrace i m r)
      | _ => s.SameMemory t ∧ s.Ran t i { regs with a := r } s.flags.i (s.readTrace i) := by
  rcases hv with ⟨hacc, rfl⟩ | ⟨m, hm, rfl⟩
  · rw [hacc]
    refine exec_of_accumulatorOperation ho hc hquiet rfl hacc haccumulator fun t ht => ?_
    obtain ⟨hvalue, hregs⟩ := hresult t (flags_eq_of_regs ht)
    rw [hvalue, hregs, ht]
  · rw [hm]
    refine exec_of_modifyOperation ho hc hquiet rfl hm (hmemory m) hw fun t ht => ?_
    obtain ⟨hvalue, hregs⟩ := hresult t (flags_eq_of_regs ht)
    exact ⟨hvalue, by rw [hregs, ht]⟩

/-- Settles O40: each shift and rotate runs its operation on A or in the read-modify-write class, with the byte of its rule. -/
theorem shiftsAndRotates : Obligations.ShiftsAndRotates := by
  refine ⟨⟨encoded_of_cells (by decide), encoded_of_cells (by decide), encoded_of_cells (by decide),
    encoded_of_cells (by decide)⟩, ?_⟩
  rintro i s v r c hw hv (⟨ho, rfl, rfl⟩ | ⟨ho, rfl, rfl⟩ | ⟨ho, rfl, rfl⟩ | ⟨ho, rfl, rfl⟩)
  · rw [← shiftLeft_one_eq_ofNat]
    exact exec_of_shiftOperation (f := opAsl) ho rfl (fun _ _ => rfl) (fun _ => rfl) opAsl_quiet hw hv
      (fun t ht => ⟨rfl, by rw [opAsl_regs, ht]; rfl⟩)
  · rw [← shiftRight_one_eq_ofNat]
    exact exec_of_shiftOperation (f := opLsr) ho rfl (fun _ _ => rfl) (fun _ => rfl) opLsr_quiet hw hv
      (fun t ht => ⟨rfl, by rw [opLsr_regs, ht]; rfl⟩)
  · rw [← rol_result]
    exact exec_of_shiftOperation (f := opRol) ho rfl (fun _ _ => rfl) (fun _ => rfl) opRol_quiet hw hv
      (fun t ht => ⟨by rw [opRol_value, ht], by rw [opRol_regs, ht]; rfl⟩)
  · rw [← ror_result]
    exact exec_of_shiftOperation (f := opRor) ho rfl (fun _ _ => rfl) (fun _ => rfl) opRor_quiet hw hv
      (fun t ht => ⟨by rw [opRor_value, ht], by rw [opRor_regs, ht]; rfl⟩)

end Sys2Proof.Machine
end

section
/-! SUPPORT. What jumps, calls, returns, branches, BRK and RTI do (spec 44_control.md R250 to R264, 40_addressing.md R123, R124):
the instructions that store nothing share one lemma, the branches another, and pushed bytes are followed push by push. -/

namespace Sys2Proof.Machine

variable {i : Instr} {s t u : State} {w : Word} {lo off b : Byte} {bs : List Byte}

/-! ## The end of an instruction -/

@[simp] theorem setPc_regs (s : State) (w : Word) : (s.setPc w).regs = { s.regs with pc := w } := rfl

theorem realizedCycles_of_cell {o : Operation} {m : Mode} {k : Nat} (h : descriptor i.opcode = cell o m k) :
    realizedCycles (descriptor i.opcode) false 0 = k := by
  simp [realizedCycles, baseCycles_of_cell h]

/-- The end of an instruction that does not lag the poll of I (10_state.md R38, R42): the next poll uses the I it leaves. -/
theorem ran_of_cycles {crossed poll : Bool} {p : Nat} {r : Regs} {tr : List BusAccess} (hbrk : i.operation ≠ .brk)
    (hlag : lagsPoll i.operation = false) (hr : u.regs = r) (htrace : u.trace = tr)
    (hcycles : realizedCycles (descriptor i.opcode) crossed p = tr.length) (hpoll : r.flags.i = poll)
    (hhidden : u.hidden = s.hidden := by simp [State.hidden])
    (hplatform : u.platform = s.platform := by simp [State.platform]) :
    s.Ran (u.finish i.opcode s.flags.i crossed p) i r poll tr := by
  have hran := ran_finish (descriptor_operation_ne_brk hbrk) hhidden hplatform htrace hcycles
  rw [← (descriptor_opcode i).1, hlag] at hran
  subst hr hpoll
  exact hran

/-- An instruction that stores nothing, whose state `t` before its end is `u`. -/
theorem exec_of_reads {crossed poll : Bool} {p : Nat} {r : Regs} {tr : List BusAccess}
    (hx : exec i s = .next (t.finish i.opcode s.flags.i crossed p)) (hu : t = u) (hbrk : i.operation ≠ .brk)
    (hlag : lagsPoll i.operation = false) (hr : u.regs = r) (htrace : u.trace = tr)
    (hcycles : realizedCycles (descriptor i.opcode) crossed p = tr.length) (hpoll : r.flags.i = poll)
    (hmem : u.mem = s.mem := by simp) (hhidden : u.hidden = s.hidden := by simp [State.hidden])
    (hplatform : u.platform = s.platform := by simp [State.platform]) :
    ∃ t, exec i s = .next t ∧ s.SameMemory t ∧ s.Ran t i r poll tr := by
  subst hu
  exact ⟨_, hx, fun a => by rw [State.finish_peek, State.peek_congr hmem],
    ran_of_cycles hbrk hlag hr htrace hcycles hpoll hhidden hplatform⟩

/-! ## Jumps (R250, R251) -/

/-- The second byte of the pointer of `JMP (w)`: the low byte wraps within the page (R123). -/
theorem pointerSecond_eq_ofNat (w : Word) :
    wordOf (hiByte w) (loByte w + 1) = BitVec.ofNat 16 (w.toNat / 256 * 256 + (w.toNat + 1) % 256) := by
  apply BitVec.eq_of_toNat_eq
  rw [wordOf_hiByte_loByte_add_toNat, BitVec.toNat_ofNat, show (1 : Byte).toNat = 1 from rfl]
  omega

theorem jumpIndirect_eq : jumpIndirect w s =
    ((s.readCycle w).readCycle (wordOf (hiByte w) (loByte w + 1))).setPc
      (wordOf (s.peek (wordOf (hiByte w) (loByte w + 1))) (s.peek w)) := rfl

/-- Settles O49: both forms store nothing; the indirect one reads its pointer within the page. -/
theorem jumps : Obligations.Jumps := by
  refine ⟨encoded_of_cells (by decide), fun s w => ?_⟩
  rw [← pointerSecond_eq_ofNat]
  constructor
  · exact exec_of_reads rfl rfl nofun rfl (by simp [State.regs]) (by simp [streamReads])
      (realizedCycles_of_cell descriptor_4C) rfl
  · exact exec_of_reads rfl jumpIndirect_eq nofun rfl (by simp [State.regs]) (by simp [streamReads, State.rd])
      (realizedCycles_of_cell descriptor_6C) rfl

/-! ## Branches (R254 to R262) -/

theorem exec_of_relative (h : i.operand = .relative off) :
    exec i s = runBranch i.opcode off (branchTaken i.operation) s := by
  cases i <;> cases h <;> rfl

theorem opcodeMap_relative (r c : Fin 16) (h : opcodeMap[r][c].mode = .relative) :
    opcodeMap[r][c].baseCycles = some 2 ∧ opcodeMap[r][c].extraOnCross = false ∧
      opcodeMap[r][c].operation ≠ .brk ∧ lagsPoll opcodeMap[r][c].operation = false := by
  revert r c; decide

theorem descriptor_of_relative (h : i.operand = .relative off) :
    (∀ crossed p, realizedCycles (descriptor i.opcode) crossed p = 2 + p) ∧
      i.operation ≠ .brk ∧ lagsPoll i.operation = false := by
  obtain ⟨hoperation, hmode⟩ := descriptor_opcode i
  obtain ⟨hbase, hcross, hbrk, hlag⟩ := opcodeMap_relative _ _ (hmode.symm.trans (congrArg Operand.mode h))
  refine ⟨fun crossed p => ?_, hoperation ▸ hbrk, hoperation ▸ hlag⟩
  change (descriptor i.opcode).baseCycles = some 2 at hbase
  change (descriptor i.opcode).extraOnCross = false at hcross
  simp [realizedCycles, hbase, hcross]

/-- The target of a branch in integers: sign extension keeps the displacement's value (R124). -/
theorem branchTarget_eq_ofInt (next : Word) (off : Byte) :
    next + sext16 off = BitVec.ofInt 16 (next.toNat + off.toInt) := by
  rw [BitVec.ofInt_add, BitVec.ofInt_natCast, BitVec.ofNat_toNat, BitVec.setWidth_eq]
  rfl

/-- A branch stores nothing: not taken it ends after its two bytes, taken it reads at the next instruction, and where the page
is crossed at the target with the uncorrected high byte. -/
theorem exec_of_branch (h : i.operand = .relative off) {taken : Bool} (htaken : branchTaken i.operation s.flags = taken) :
    let next := s.pc + 2
    let target := next + sext16 off
    ∃ t, exec i s = .next t ∧ s.SameMemory t ∧
      s.Ran t i { s.regs with pc := if taken then target else next } s.flags.i
        (⟨.read, s.pc, i.opcode⟩ :: ⟨.read, s.pc + 1, off⟩ ::
          if taken then
            s.rd next :: if hiByte target = hiByte next then [] else [s.rd (wordOf (hiByte next) (loByte target))]
          else []) := by
  intro next target
  obtain ⟨hcycles, hbrk, hlag⟩ := descriptor_of_relative h
  have hx := exec_of_relative (s := s) h
  have hnext : s.pc + 1 + 1 = next := BitVec.add_assoc _ _ _
  have htarget : next + sext16 off = target := rfl
  simp only [runBranch, htaken, State.fetchByte_pc, State.begin_pc, hnext, htarget] at hx
  cases taken with
  | false =>
    simp only [Bool.false_eq_true, if_false] at hx ⊢
    exact exec_of_reads hx rfl hbrk hlag (by simpa [State.regs] using hnext) (by simp) (hcycles _ _) rfl
  | true =>
    by_cases hpage : hiByte target = hiByte next
    · simp only [hpage, bne_self_eq_false, Bool.false_eq_true, if_true, if_false] at hx ⊢
      exact exec_of_reads hx rfl hbrk hlag (by simp [State.regs]) (by simp [State.rd]) (hcycles _ _) rfl
    · simp only [hpage, bne_iff_ne.mpr hpage, if_true, if_false] at hx ⊢
      exact exec_of_reads hx rfl hbrk hlag (by simp [State.regs]) (by simp [State.rd]) (hcycles _ _) rfl

/-- Settles O52: each branch by the flag its operation names, in the shape of a branch. -/
theorem branches : Obligations.Branches := by
  refine ⟨⟨encoded_of_cells (by decide), encoded_of_cells (by decide), encoded_of_cells (by decide),
    encoded_of_cells (by decide), encoded_of_cells (by decide), encoded_of_cells (by decide),
    encoded_of_cells (by decide), encoded_of_cells (by decide)⟩, fun s off i taken hi => ?_⟩
  obtain ⟨hoperand, htaken⟩ : i.operand = .relative off ∧ branchTaken i.operation s.flags = taken := by
    obtain ⟨rfl, rfl⟩ | ⟨rfl, rfl⟩ | ⟨rfl, rfl⟩ | ⟨rfl, rfl⟩ | ⟨rfl, rfl⟩ | ⟨rfl, rfl⟩ | ⟨rfl, rfl⟩ | ⟨rfl, rfl⟩ := hi <;>
      exact ⟨rfl, rfl⟩
  simp only [← branchTarget_eq_ofInt]
  exact exec_of_branch hoperand htaken

/-! ## Returns (R253, R264) -/

/-- The four reads of RTS after its first two cycles: the stack byte, the pulled word, the byte there. -/
theorem opRts_eq : opRts s =
    ((((((s.readCycle (stackAddr s.sp)).readCycle (stackAddr (s.sp + 1))).readCycle (stackAddr (s.sp + 2))).readCycle
      (wordOf (s.peek (stackAddr (s.sp + 2))) (s.peek (stackAddr (s.sp + 1))))).setSp (s.sp + 2)).setPc
      (wordOf (s.peek (stackAddr (s.sp + 2))) (s.peek (stackAddr (s.sp + 1))) + 1)) := by
  have hsp : s.sp + 1 + 1 = s.sp + 2 := BitVec.add_assoc _ _ _
  rw [← hsp]
  rfl

/-- The four reads of RTI after its first two cycles: the stack byte, P, the word. -/
theorem opRti_eq : opRti s =
    ((((((s.readCycle (stackAddr s.sp)).readCycle (stackAddr (s.sp + 1))).readCycle (stackAddr (s.sp + 2))).readCycle
      (stackAddr (s.sp + 3))).setSp (s.sp + 3)).setFlags (Flags.pwrite (s.peek (stackAddr (s.sp + 1))))).setPc
      (wordOf (s.peek (stackAddr (s.sp + 3))) (s.peek (stackAddr (s.sp + 2)))) :=
  State.returnFromException_eq (s.readCycle (stackAddr s.sp))

/-- Settles O51: RTS stores nothing and continues one past the pulled word. -/
theorem returnFromSubroutine : Obligations.ReturnFromSubroutine :=
  ⟨encoded_of_cells (by decide), fun _ =>
    exec_of_reads rfl opRts_eq nofun rfl (by simp [State.regs]) (by simp [State.rd])
      (realizedCycles_of_cell descriptor_60) rfl⟩

/-- Settles O54: RTI stores nothing and the next poll uses the I it pulled. -/
theorem returnFromInterrupt : Obligations.ReturnFromInterrupt :=
  ⟨encoded_of_cells (by decide), fun _ =>
    exec_of_reads rfl opRti_eq nofun rfl (by simp [State.regs, Flags.pwrite]) (by simp [State.rd])
      (realizedCycles_of_cell descriptor_40) rfl⟩

/-! ## Pushed bytes -/

theorem sub_ofNat_succ (sp : Byte) (k : Nat) : sp - BitVec.ofNat 8 (k + 1) = sp - 1 - BitVec.ofNat 8 k := by
  rw [BitVec.sub_sub, BitVec.ofNat_add, BitVec.add_comm]
  rfl

theorem sub_ofNat_succ_ne (sp : Byte) {k : Nat} (h : k + 1 < 256) : sp - BitVec.ofNat 8 (k + 1) ≠ sp := by
  bv_omega

/-- Fewer than 256 pushes meet distinct stack bytes, so the last one leaves the earlier ones. -/
theorem pushedByte_append (sp : Byte) (hlen : bs.length < 256) (a : Word) :
    s.pushedByte sp (bs ++ [b]) a =
      if a = stackAddr (sp - BitVec.ofNat 8 bs.length) ∧ s.writable a = true then b else s.pushedByte sp bs a := by
  induction bs generalizing sp with
  | nil => simp [State.pushedByte]
  | cons c bs ih =>
    rw [List.length_cons] at hlen ⊢
    simp only [List.cons_append, State.pushedByte, ih (sp - 1) (by omega), ← sub_ofNat_succ]
    by_cases ha : a = stackAddr sp
    · simp only [ha, stackAddr_inj, (sub_ofNat_succ_ne sp hlen).symm, false_and, if_false]
    · simp only [ha, false_and, if_false]

/-- Where the bus accepts the write, the byte pushed after `k` others lies `k` below the first. -/
theorem pushedByte_of_getElem? {sp : Byte} {k : Nat} (hlen : bs.length ≤ 256) (hk : bs[k]? = some b)
    (hwritable : s.writable (stackAddr (sp - BitVec.ofNat 8 k)) = true) :
    s.pushedByte sp bs (stackAddr (sp - BitVec.ofNat 8 k)) = b := by
  induction bs generalizing sp k with
  | nil => cases hk
  | cons c bs ih =>
    rw [List.length_cons] at hlen
    cases k with
    | zero =>
      cases hk
      rw [BitVec.sub_zero] at hwritable ⊢
      simp only [State.pushedByte, hwritable, and_self, if_true]
    | succ k =>
      have hk' := (List.getElem?_eq_some_iff.mp hk).1
      rw [List.length_cons] at hk'
      have hne : stackAddr (sp - BitVec.ofNat 8 (k + 1)) ≠ stackAddr sp :=
        mt stackAddr_inj.mp (sub_ofNat_succ_ne sp (by omega))
      simp only [State.pushedByte, hne, false_and, if_false]
      rw [sub_ofNat_succ] at hwritable ⊢
      exact ih (by omega) hk hwritable

theorem pushedByte_congr (hmem : u.mem = s.mem) (hplatform : u.platform = s.platform) (sp : Byte) (a : Word) :
    u.pushedByte sp bs a = s.pushedByte sp bs a := by
  induction bs generalizing sp with
  | nil => exact State.peek_congr hmem a
  | cons c bs ih => simp only [State.pushedByte, ih, State.writable_congr hplatform]

/-- Pushes from a state with the same memory, bus and SP. -/
theorem State.Pushed.of_same (h : u.Pushed t bs) (hmem : u.mem = s.mem := by simp)
    (hplatform : u.platform = s.platform := by simp [State.platform]) (hsp : u.sp = s.sp := by simp) : s.Pushed t bs :=
  fun a => by rw [h a, pushedByte_congr hmem hplatform, hsp]

/-- One more push onto bytes pushed. -/
theorem State.Pushed.push (h : s.Pushed t bs) (b : Byte) (hw : t.mem.wf = true) (hlen : bs.length < 256)
    (hsp : t.sp = s.sp - BitVec.ofNat 8 bs.length := by simp [BitVec.sub_sub])
    (hplatform : t.platform = s.platform := by simp [State.platform]) : s.Pushed (t.push b) (bs ++ [b]) := by
  intro a
  rw [pushedByte_append _ hlen, State.push_peek hw, h a, hsp, State.writable_congr hplatform]
  by_cases ha : a = stackAddr (s.sp - BitVec.ofNat 8 bs.length)
  · rw [ha]
  · simp [ha]

/-- What a pull reads with SP back at a pushed byte. -/
theorem State.Pushed.peek {sp : Byte} {k : Nat} (h : s.Pushed t bs) (hlen : bs.length ≤ 256) (hk : bs[k]? = some b)
    (hsp : sp = s.sp - BitVec.ofNat 8 k) (hwritable : s.writable (stackAddr sp) = true) : t.peek (stackAddr sp) = b := by
  subst hsp
  rw [h]
  exact pushedByte_of_getElem? hlen hk hwritable

theorem State.pushed_nil (s : State) : s.Pushed s [] := fun _ => rfl

/-! ## JSR (R252) -/

/-- The state after JSR's two pushes, before the fetch of the target's high byte. -/
def State.afterCall (s : State) (lo : Byte) : State :=
  (((s.fetchByte lo).readCycle (stackAddr s.sp)).push (hiByte (s.pc + 1))).push (loByte (s.pc + 1))

theorem callSubroutine_eq : callSubroutine lo s =
    ((s.afterCall lo).readCycle (s.pc + 1)).setPc (wordOf ((s.afterCall lo).peek (s.pc + 1)) lo) := rfl

theorem afterCall_regs : (s.afterCall lo).regs = { s.regs with sp := s.sp - 2, pc := s.pc + 1 } := by
  simp [State.afterCall, State.regs, BitVec.sub_sub]

theorem afterCall_trace : (s.afterCall lo).trace = s.trace ++
    [⟨.read, s.pc, lo⟩, s.rd (stackAddr s.sp), wr (stackAddr s.sp) (hiByte (s.pc + 1)),
      wr (stackAddr (s.sp - 1)) (loByte (s.pc + 1))] := by
  simp [State.afterCall, State.rd, wr]

theorem afterCall_pushed (hw : s.mem.wf = true) : s.Pushed (s.afterCall lo) [hiByte (s.pc + 1), loByte (s.pc + 1)] := by
  have hfetched : s.Pushed ((s.fetchByte lo).readCycle (stackAddr s.sp)) [] := fun _ => rfl
  have hwf : ((s.fetchByte lo).readCycle (stackAddr s.sp)).mem.wf = true := hw
  exact (hfetched.push (hiByte (s.pc + 1)) hwf (by decide)).push (loByte (s.pc + 1)) (State.push_wf hwf _) (by simp)

/-- Settles O50: the high byte of the target is read from the stack bytes JSR itself pushed, where they meet it. -/
theorem jumpToSubroutine : Obligations.JumpToSubroutine := by
  refine ⟨encoded_of_cells (by decide), fun s w hw => ⟨_, rfl, ?_⟩⟩
  intro last high
  have hlast : s.pc + 1 + 1 = last := BitVec.add_assoc _ _ _
  have hpushed : s.Pushed ((s.begin 0x20#8).afterCall (loByte w)) [hiByte last, loByte last] := by
    rw [← hlast]
    exact (afterCall_pushed (s := s.begin 0x20#8) hw).of_same
  have hcall : callSubroutine (loByte w) (s.begin 0x20#8) =
      (((s.begin 0x20#8).afterCall (loByte w)).readCycle last).setPc (wordOf high (loByte w)) := by
    rw [callSubroutine_eq, State.begin_pc, hlast, hpushed last]
  rw [hcall]
  refine ⟨fun a => ?pushed, ?ran, fun hfetched hhigh hlow => ?target⟩
  case pushed => rw [State.finish_peek, State.setPc_peek, State.readCycle_peek, hpushed a]
  case ran =>
    refine ran_of_cycles (i := .jsr w) nofun rfl ?_ ?_ (realizedCycles_of_cell descriptor_20) rfl
      (by simp [State.afterCall, State.hidden]) (by simp [State.afterCall, State.platform])
    · rw [setPc_regs, readCycle_regs, afterCall_regs, begin_regs]
      rfl
    · rw [State.setPc_trace, State.readCycle_trace, afterCall_trace, hpushed last, State.begin_pc, hlast]
      rfl
  case target =>
    have hhighByte : high = hiByte w := by
      simp only [high, State.pushedByte, hhigh, hlow, false_and, if_false, hfetched]
    simp [hhighByte]

/-! ## BRK (R263) -/

theorem afterPushes_pushed (hw : s.mem.wf = true) :
    s.Pushed (s.afterPushes true) [hiByte s.pc, loByte s.pc, s.flags.pread true] := by
  have hhigh := s.pushed_nil.push (hiByte s.pc) hw (by decide)
  have hlow := hhigh.push (loByte s.pc) (State.push_wf hw _) (by simp)
  exact hlow.push (s.flags.pread true) (State.push_wf (State.push_wf hw _) _) (by simp)

/-- Settles O53: BRK is the exception of the IRQ/BRK vector with B = 1, after the padding byte. -/
theorem softwareInterrupt : Obligations.SoftwareInterrupt := by
  refine ⟨encoded_of_cells (by decide), fun s hw => ⟨_, rfl, ?_⟩⟩
  have hpc : (s.begin 0x00#8).fetchNext.pc = s.pc + 2 := BitVec.add_assoc _ _ _
  have hwf : (s.begin 0x00#8).fetchNext.mem.wf = true := by simpa using hw
  have hpushed : s.Pushed ((s.begin 0x00#8).fetchNext.afterPushes true)
      [hiByte (s.pc + 2), loByte (s.pc + 2), s.flags.pread true] := by
    rw [← hpc]
    exact (afterPushes_pushed hwf).of_same
  have htrace := State.takeException_trace vectorIrq true hwf (by decide) (by decide)
  have htarget := State.takeException_pc vectorIrq true hwf (by decide) (by decide)
  rw [hpc] at htrace
  refine ⟨fun a => ?_, ?_, ?_, ?_, ?_, ?_, ?_, ?_⟩
  · rw [State.finish_peek, State.takeException_peek, hpushed]
  · simpa [State.regs, vectorIrq] using htarget
  · simp [State.hidden, lagsPoll]
  · simp [State.platform]
  · simp
  · simp [eventOf]
  · simp [realizedCycles]
  · simpa [State.rd, vectorIrq] using htrace

/-! ## Round trips -/

/-- Settles O55: the bytes JSR and BRK push are those that RTS and RTI pull, each at its own stack byte. -/
theorem callsAndInterruptsReturn : Obligations.CallsAndInterruptsReturn := by
  constructor
  · intro s w hw hhigh hlow
    obtain ⟨t, hcall, hpushed, hran, -⟩ := jumpToSubroutine.2 s w hw
    obtain ⟨u, hreturn, -, hran'⟩ := returnFromSubroutine.2 t
    refine ⟨t, u, hcall, hreturn, ?_⟩
    have hsp : t.sp = s.sp - 2 := congrArg Regs.sp hran.regs
    have hsp₁ : t.sp + 1 = s.sp - 1 := by rw [hsp]; bv_omega
    have hsp₂ : t.sp + 2 = s.sp := by rw [hsp]; bv_omega
    have hpulledLow : t.peek (stackAddr (t.sp + 1)) = loByte (s.pc + 2) :=
      hpushed.peek (k := 1) (by simp) rfl hsp₁ (hsp₁ ▸ hlow)
    have hpulledHigh : t.peek (stackAddr (t.sp + 2)) = hiByte (s.pc + 2) :=
      hpushed.peek (k := 0) (by simp) rfl (by rw [hsp₂, BitVec.sub_zero]) (hsp₂ ▸ hhigh)
    rw [hran'.regs, hran.regs, hpulledLow, hpulledHigh, hsp₂, wordOf_hi_lo, BitVec.add_assoc]
    rfl
  · intro s hw hhigh hlow hstatus
    obtain ⟨t, hbreak, hpushed, hregs, -⟩ := softwareInterrupt.2 s hw
    obtain ⟨u, hreturn, -, hran⟩ := returnFromInterrupt.2 t
    refine ⟨t, u, hbreak, hreturn, ?_⟩
    have hsp : t.sp = s.sp - 3 := congrArg Regs.sp hregs
    have hsp₁ : t.sp + 1 = s.sp - 2 := by rw [hsp]; bv_omega
    have hsp₂ : t.sp + 2 = s.sp - 1 := by rw [hsp]; bv_omega
    have hsp₃ : t.sp + 3 = s.sp := by rw [hsp]; bv_omega
    have hpulledStatus : t.peek (stackAddr (t.sp + 1)) = s.flags.pread true :=
      hpushed.peek (k := 2) (by simp) rfl hsp₁ (hsp₁ ▸ hstatus)
    have hpulledLow : t.peek (stackAddr (t.sp + 2)) = loByte (s.pc + 2) :=
      hpushed.peek (k := 1) (by simp) rfl hsp₂ (hsp₂ ▸ hlow)
    have hpulledHigh : t.peek (stackAddr (t.sp + 3)) = hiByte (s.pc + 2) :=
      hpushed.peek (k := 0) (by simp) rfl (by rw [hsp₃, BitVec.sub_zero]) (hsp₃ ▸ hhigh)
    have hflags := Flags.pwrite_pread s.flags true
    rw [Flags.pwrite] at hflags
    rw [hran.regs, hregs, hpulledStatus, hpulledLow, hpulledHigh, hsp₃, wordOf_hi_lo, hflags]
    rfl

end Sys2Proof.Machine
end

section
/-! SUPPORT. What the flag operations, the no-operations and the halt do (spec 45_flags_nop_jam.md R280 to R290): a write of the
six latches in the implied form, a read of the operand in every form NOP has, and JAM's opcode fetch. -/

namespace Sys2Proof.Machine

variable {i : Instr} {s : State}

/-! ## Flag operations (R280 to R286) -/

/-- An implied instruction of 2 cycles that loads the latches with `g` of them: the next poll uses the I from before, because the
instruction lags the poll (10_state.md R38) or because `g` leaves I alone. -/
theorem exec_of_flagOperation {g : Flags → Flags} (hoperand : i.operand = .implied)
    (hx : exec i s = runImplied i.opcode (fun t => t.setFlags (g t.flags)) s) (hbrk : i.operation ≠ .brk)
    (hd : (descriptor i.opcode).baseCycles = some 2)
    (hpoll : lagsPoll i.operation = true ∨ (g s.flags).i = s.flags.i) :
    ∃ t, exec i s = .next t ∧ s.SameMemory t ∧
      s.Ran t i { s.regs with pc := s.pc + 1, flags := g s.flags } s.flags.i (s.readTrace i) := by
  refine exec_of_implied (.inl hoperand) hx (fun _ => ⟨rfl, rfl, rfl, rfl, rfl⟩) (descriptor_operation_ne_brk hbrk) hd rfl ?_
  rw [← (descriptor_opcode i).1]
  rcases hpoll with hlag | hi
  · exact if_pos hlag
  · exact (congrArg _ hi).trans (ite_self _)

/-- Settles O56: each loads the latches with one of them written; CLI and SEI, which write I, lag the poll. -/
theorem flagOperations : Obligations.FlagOperations := by
  refine ⟨⟨encoded_of_cells (by decide), encoded_of_cells (by decide), encoded_of_cells (by decide),
    encoded_of_cells (by decide), encoded_of_cells (by decide), encoded_of_cells (by decide),
    encoded_of_cells (by decide)⟩, ?_⟩
  rintro i s f (⟨rfl, rfl⟩ | ⟨rfl, rfl⟩ | ⟨rfl, rfl⟩ | ⟨rfl, rfl⟩ | ⟨rfl, rfl⟩ | ⟨rfl, rfl⟩ | ⟨rfl, rfl⟩)
  · exact exec_of_flagOperation (g := fun f => { f with c := false }) rfl rfl nofun
      (baseCycles_of_cell descriptor_18) (.inr rfl)
  · exact exec_of_flagOperation (g := fun f => { f with c := true }) rfl rfl nofun
      (baseCycles_of_cell descriptor_38) (.inr rfl)
  · exact exec_of_flagOperation (g := fun f => { f with i := false }) rfl rfl nofun
      (baseCycles_of_cell descriptor_58) (.inl rfl)
  · exact exec_of_flagOperation (g := fun f => { f with i := true }) rfl rfl nofun
      (baseCycles_of_cell descriptor_78) (.inl rfl)
  · exact exec_of_flagOperation (g := fun f => { f with d := false }) rfl rfl nofun
      (baseCycles_of_cell descriptor_D8) (.inr rfl)
  · exact exec_of_flagOperation (g := fun f => { f with d := true }) rfl rfl nofun
      (baseCycles_of_cell descriptor_F8) (.inr rfl)
  · exact exec_of_flagOperation (g := fun f => { f with v := false }) rfl rfl nofun
      (baseCycles_of_cell descriptor_B8) (.inr rfl)

/-! ## No-operations (R287 to R289) -/

theorem opcodeMap_implied_nop_baseCycles (r c : Fin 16) (ho : opcodeMap[r][c].operation = .nop)
    (hm : opcodeMap[r][c].mode = .implied) : opcodeMap[r][c].baseCycles = some 2 := by
  revert r c; decide

theorem descriptor_of_implied_nop (ho : i.operation = .nop) (h : i.operand = .implied) :
    (descriptor i.opcode).baseCycles = some 2 := by
  obtain ⟨hoperation, hmode⟩ := descriptor_opcode i
  exact opcodeMap_implied_nop_baseCycles _ _ (hoperation.symm.trans ho) (hmode.symm.trans (congrArg Operand.mode h))

/-- Settles O57: NOP runs an operation that does nothing in the read class, on its immediate operand and in the implied form. -/
theorem noOperations : Obligations.NoOperations := by
  refine ⟨encoded_of_cells (by decide), fun i s ho => ?_⟩
  have hbrk : (descriptor i.opcode).operation ≠ .brk := descriptor_operation_ne_brk (by rw [ho]; decide)
  have hclass : i.operation.accessClass = some .read := congrArg Operation.accessClass ho
  rcases Form.memory_or_immediate_or_nop_of_read i.form_addressable hclass with
    ⟨m, (hm : i.operand = .memory m)⟩ | ⟨v, (hv : i.operand = .immediate v)⟩ | ⟨(himplied : i.operand = .implied), -⟩
  · obtain ⟨hbase, hcross⟩ := descriptor_of_read (s := s) hm hclass
    exact exec_of_read hm (by rw [exec_eq_meaning, ho, hm]; rfl) opNop_quiet hbrk hbase hcross
      (by rw [opNop_regs, operandRead_regs]) (by rw [opNop_regs, operandRead_regs]; exact ite_self _)
  · exact exec_of_immediate hv (by rw [exec_eq_meaning, ho, hv]; rfl) opNop_quiet hbrk (descriptor_of_immediate hv)
      rfl (ite_self _)
  · have hnext : s.nextPc i = s.pc + 1 := by rw [State.nextPc, Instr.length, himplied]; rfl
    rw [hnext]
    exact exec_of_implied (f := id) (.inl himplied) (by rw [exec_eq_meaning, ho, himplied]; rfl)
      (fun _ => ⟨rfl, rfl, rfl, rfl, rfl⟩) hbrk (descriptor_of_implied_nop ho himplied) rfl (ite_self _)

/-! ## Halt (R290) -/

theorem exec_of_jam (ho : i.operation = .jam) : exec i s = .next ((s.begin i.opcode).halt i.opcode) := by
  cases i <;> cases ho <;> rfl

/-- JAM is the operation without a base cycle count. -/
theorem realizedCycles_of_jam (ho : i.operation = .jam) : realizedCycles (descriptor i.opcode) false 0 = 1 := by
  obtain ⟨-, -, hbase⟩ := descriptorsMarkCrossingAndModify i.opcode
  simp [realizedCycles, hbase.mpr ((descriptor_opcode i).1.symm.trans ho)]

theorem takeReset_halted (s : State) : s.takeReset.halted = false := congrArg Hidden.halted s.takeReset_hidden

/-- Settles O8: JAM halts after its opcode fetch, the boundary of a halted core does nothing, and a reset clears the halt. -/
theorem jamHaltsUntilReset : Obligations.JamHaltsUntilReset := by
  refine ⟨encoded_of_cells (by decide), fun i s ho => ?jam, fun s irq nmi queue => step_halted, fun s queue hq _ => ?reset⟩
  case jam =>
    exact ⟨_, exec_of_jam ho, fun _ => rfl, rfl, rfl, rfl, rfl, rfl, realizedCycles_of_jam ho, rfl⟩
  case reset => exact ⟨_, step_reset hq, takeReset_halted _⟩

end Sys2Proof.Machine
end

section
/-! SUPPORT. What the undocumented instructions do (spec 46_undocumented.md R300 to R321): the shapes of the immediate form and of
the high-byte store at any operation of theirs, the bytes of ARR in integers, and each operation with the result its rule
gives. -/

namespace Sys2Proof.Machine

variable {i : Instr} {s t : State} {m : MemOperand} {o : Operation} {v : Byte} {p : Word}

theorem Quiet.refl (s : State) : Quiet s s := ⟨rfl, rfl, rfl, rfl, rfl⟩

theorem sp_eq_of_regs (h : t.regs = { s.regs with pc := p }) : t.sp = s.sp := congrArg Regs.sp h

/-! ## Memory modified, then combined with A (R301 to R306) -/

/-- Settles O41: each runs its operation, a shift and a logic operation on A, in the read-modify-write class. -/
theorem shiftThenLogic : Obligations.ShiftThenLogic := by
  refine ⟨⟨encoded_of_cells (by decide), encoded_of_cells (by decide), encoded_of_cells (by decide)⟩, ?_⟩
  intro i s hw ho
  obtain ⟨m, hm⟩ : ∃ m, i.operand = .memory m := by
    simp only [List.mem_cons, List.not_mem_nil, or_false] at ho
    obtain ho | ho | ho := ho <;>
      exact exists_memory_of_modify (congrArg Operation.accessClass ho) (by rw [ho]; decide)
  refine ⟨m, hm, ?_⟩
  rintro v r a c rfl (⟨ho, rfl, rfl, rfl⟩ | ⟨ho, rfl, rfl, rfl⟩ | ⟨ho, rfl, rfl, rfl⟩)
  · rw [← shiftLeft_one_eq_ofNat]
    exact exec_of_modifyOperation (f := opSlo) ho rfl opSlo_quiet rfl hm (fun _ => rfl) hw
      (fun t ht => ⟨rfl, by rw [opSlo_regs, ht, a_eq_of_regs ht, flags_eq_of_regs ht]; rfl⟩)
  · rw [← rol_result]
    exact exec_of_modifyOperation (f := opRla) ho rfl opRla_quiet rfl hm (fun _ => rfl) hw
      (fun t ht => ⟨by rw [opRla_value, flags_eq_of_regs ht],
        by rw [opRla_regs, ht, a_eq_of_regs ht, flags_eq_of_regs ht]; rfl⟩)
  · rw [← shiftRight_one_eq_ofNat]
    exact exec_of_modifyOperation (f := opSre) ho rfl opSre_quiet rfl hm (fun _ => rfl) hw
      (fun t ht => ⟨rfl, by rw [opSre_regs, ht, a_eq_of_regs ht, flags_eq_of_regs ht]; rfl⟩)

/-- Settles O42: DCP runs its decrement and compare in the read-modify-write class. -/
theorem decrementThenCompare : Obligations.DecrementThenCompare := by
  refine ⟨encoded_of_cells (by decide), fun i s hw ho => ?_⟩
  obtain ⟨m, hm⟩ := exists_memory_of_modify (congrArg Operation.accessClass ho) (by rw [ho]; decide)
  exact ⟨m, exists_and_left.mpr ⟨hm, exec_of_modifyOperation (f := opDcp) ho rfl opDcp_quiet rfl hm (fun _ => rfl) hw
    (fun t ht => ⟨rfl, by rw [opDcp_regs, ht, a_eq_of_regs ht, flags_eq_of_regs ht, compareFlags_eq_rule]⟩)⟩⟩

/-- Settles O43: RRA passes the guard and runs its rotate and add in the read-modify-write class. -/
theorem rotateThenAdd : Obligations.RotateThenAdd := by
  refine ⟨encoded_of_cells (by decide), fun i s hw ho haccepts => ?_⟩
  obtain ⟨m, hm⟩ := exists_memory_of_modify (congrArg Operation.accessClass ho) (by rw [ho]; decide)
  refine ⟨m, exists_and_left.mpr ⟨hm, ?_⟩⟩
  simp only [← ror_result, ← adcByte_eq_rule]
  exact exec_of_modifyOperation (f := opRra) ho rfl opRra_quiet (adcByte_i ..) hm
    (fun _ => State.decimalGuard_accepts haccepts) hw
    (fun t ht => ⟨by rw [opRra_value, flags_eq_of_regs ht],
      by rw [opRra_regs, ht, a_eq_of_regs ht, flags_eq_of_regs ht]; rfl⟩)

/-- Settles O44: ISC passes the guard and runs its increment and subtract in the read-modify-write class. -/
theorem incrementThenSubtract : Obligations.IncrementThenSubtract := by
  refine ⟨encoded_of_cells (by decide), fun i s hw ho haccepts => ?_⟩
  obtain ⟨m, hm⟩ := exists_memory_of_modify (congrArg Operation.accessClass ho) (by rw [ho]; decide)
  refine ⟨m, exists_and_left.mpr ⟨hm, ?_⟩⟩
  simp only [← sbcByte_eq_rule]
  exact exec_of_modifyOperation (f := opIsc) ho rfl opIsc_quiet (sbcByte_i ..) hm
    (fun _ => State.decimalGuard_accepts haccepts) hw
    (fun t ht => ⟨rfl, by rw [opIsc_regs, ht, a_eq_of_regs ht, flags_eq_of_regs ht]⟩)

/-! ## The read class and the immediate form (R307 to R315) -/

/-- An instruction that runs `f` on its immediate operand (40_addressing.md R116), where `f` leaves the registers `regs` and I
alone. -/
theorem exec_of_immediateOperation {f : Byte → State → State} {regs : Regs} (ho : i.operation = o) (hbrk : o ≠ .brk)
    (hquiet : ∀ v t, Quiet t (f v t)) (hi : regs.flags.i = s.flags.i) (hv : i.operand = .immediate v)
    (himmediate : ∀ op, meaning o (.immediate v) op s = runImmediate op v f s)
    (hresult : ∀ t, t.regs = { s.regs with pc := t.pc } → t.config = s.config →
      { (f v t).regs with pc := s.nextPc i } = regs) :
    ∃ t, exec i s = .next t ∧ s.SameMemory t ∧ s.Ran t i regs s.flags.i (s.readTrace i) := by
  subst ho
  have hregs := hresult ((s.begin i.opcode).fetchByte v) rfl rfl
  exact exec_of_immediate hv (by rw [exec_eq_meaning, hv, himmediate]) hquiet (descriptor_operation_ne_brk hbrk)
    (descriptor_of_immediate hv) hregs (by rw [(congrArg (·.flags.i) hregs).trans hi, ite_self])

/-- LAX on memory and LAX immediate are two operations, so the read class is taken at its two forms. -/
theorem exec_of_lax (ho : i.operation = .lax) (hv : s.operandValue i.operand = some v) :
    ∃ t, exec i s = .next t ∧ s.SameMemory t ∧
      let r := if i.operand = .immediate v then (s.a ||| s.config.lxaMagic) &&& v else v
      s.Ran t i { s.regs with
        a := r, x := r, pc := s.nextPc i, flags := { s.flags with n := r.getLsbD 7, z := r == 0 } } s.flags.i
        (s.readTrace i) := by
  have hclass : i.operation.accessClass = some .read := congrArg Operation.accessClass ho
  rcases Form.memory_or_immediate_or_nop_of_read i.form_addressable hclass with
    ⟨m, (hm : i.operand = .memory m)⟩ | ⟨w, (hw : i.operand = .immediate w)⟩ | ⟨-, (hnop : i.operation = .nop)⟩
  · rw [hm] at hv
    obtain rfl := Option.some.inj hv
    obtain ⟨hbase, hcross⟩ := descriptor_of_read (s := s) hm hclass
    rw [if_neg (by rw [hm]; nofun)]
    exact exec_of_read hm (by rw [exec_eq_meaning, ho, hm]; rfl) opLax_quiet
      (descriptor_operation_ne_brk (by rw [ho]; decide)) hbase hcross
      (by rw [opLax_regs, operandRead_regs, operandRead_flags]) (by rw [opLax_regs, operandRead_flags, ite_self])
  · rw [hw] at hv
    obtain rfl := Option.some.inj hv
    rw [if_pos hw]
    exact exec_of_immediateOperation (f := opLaxImmediate) ho nofun opLaxImmediate_quiet rfl hw (fun _ => rfl)
      (fun t ht hconfig => by rw [opLaxImmediate_regs, ht, hconfig, a_eq_of_regs ht, flags_eq_of_regs ht])
  · cases ho.symm.trans hnop

/-- Settles O45: LAX by its two forms, LAS by its operation in the read class. -/
theorem loadsOfSeveralRegisters : Obligations.LoadsOfSeveralRegisters := by
  refine ⟨⟨encoded_of_cells (by decide), encoded_of_cells (by decide)⟩, fun i s v hv => ⟨fun ho => exec_of_lax ho hv,
    fun ho => ?las⟩⟩
  case las =>
    obtain ⟨w, t, hw, hexec⟩ := exec_of_readOperation (f := opLas)
      (r := fun v => { a := v &&& s.sp, x := v &&& s.sp, y := s.y, sp := v &&& s.sp, pc := s.nextPc i, flags :=
        { s.flags with n := (v &&& s.sp).getLsbD 7, z := v &&& s.sp == 0 } })
      ho rfl nofun (fun _ _ => rfl) (fun _ _ => rfl) opLas_quiet
      (fun v t ht => by rw [opLas_regs, ht, sp_eq_of_regs ht, flags_eq_of_regs ht]; rfl) (fun _ => rfl)
    obtain rfl := Option.some.inj (hv.symm.trans hw)
    exact ⟨t, hexec⟩

theorem sub_eq_ofInt (a v : Byte) : a - v = BitVec.ofInt 8 ((a.toNat : Int) - v.toNat) := by
  have hv := v.isLt
  apply BitVec.eq_of_toNat_eq
  rw [BitVec.toNat_sub, BitVec.toNat_ofInt]
  omega

/-- Settles O46: each runs its operation on its immediate operand. -/
theorem immediateFormulas : Obligations.ImmediateFormulas := by
  refine ⟨⟨encoded_of_cells (by decide), encoded_of_cells (by decide), encoded_of_cells (by decide),
    encoded_of_cells (by decide)⟩, fun i s v hv => ⟨fun _ r c h => ?_, fun ho => ?axs⟩⟩
  case axs =>
    rw [← sub_eq_ofInt]
    exact exec_of_immediateOperation (f := opAxs) ho nofun opAxs_quiet rfl hv (fun _ => rfl)
      (fun t ht _ => by rw [opAxs_regs, ht, a_eq_of_regs ht, x_eq_of_regs ht, flags_eq_of_regs ht])
  obtain ⟨ho, rfl, rfl⟩ | ⟨ho, rfl, rfl⟩ | ⟨ho, rfl, rfl⟩ := h
  · exact exec_of_immediateOperation (f := opAnc) ho nofun opAnc_quiet rfl hv (fun _ => rfl)
      (fun t ht _ => by rw [opAnc_regs, ht, a_eq_of_regs ht, flags_eq_of_regs ht])
  · rw [← shiftRight_one_eq_ofNat]
    exact exec_of_immediateOperation (f := opAlr) ho nofun opAlr_quiet rfl hv (fun _ => rfl)
      (fun t ht _ => by rw [opAlr_regs, ht, a_eq_of_regs ht, flags_eq_of_regs ht])
  · exact exec_of_immediateOperation (f := opXaa) ho nofun opXaa_quiet rfl hv (fun _ => rfl)
      (fun t ht hconfig => by rw [opXaa_regs, ht, hconfig, a_eq_of_regs ht, x_eq_of_regs ht, flags_eq_of_regs ht])

/-! ## The high-byte stores (R316 to R319, R321) -/

/-- An instruction that stores `src` AND `H + 1`, on a page crossing at the address with that high byte, after `pre`. -/
theorem exec_of_highStore {src : State → Byte} {pre : State → State} {sp : Byte} (ho : i.operation = o)
    (hc : o.accessClass = some .write)
    (hmemory : ∀ m op, meaning o (.memory m) op s = runHighStore op m src pre s)
    (hquiet : ∀ t, Quiet t (pre t)) (hw : s.mem.wf = true)
    (hpre : ∀ t, t.regs = { s.regs with pc := t.pc } → (pre t).regs = { s.regs with sp := sp, pc := t.pc }) :
    ∃ m t, i.operand = .memory m ∧ exec i s = .next t ∧
      let value := src s &&& (hiByte (baseAddress m s) + 1)
      let addr := if pageCrossed m s = true then wordOf value (loByte (effectiveAddress m s)) else effectiveAddress m s
      s.Stored t addr value ∧
      s.Ran t i { s.regs with sp := sp, pc := s.nextPc i } s.flags.i (s.writeTrace i m addr value) := by
  subst ho
  obtain ⟨m, (hm : i.operand = .memory m)⟩ := Form.exists_memory_of_write i.form_addressable hc
  obtain ⟨hbase, hcross⟩ := descriptor_of_write hm hc
  have hregs := hpre (resolve m (s.begin i.opcode)).fixupRead (by simp [State.regs])
  have hi : (pre (resolve m (s.begin i.opcode)).fixupRead).flags.i = s.flags.i := congrArg (·.flags.i) hregs
  have hstored (addr : Word) (value : Byte) := store_ran (v := value) (addr := addr) hquiet hw hm
    (descriptor_operation_ne_brk (by intro h; rw [h] at hc; cases hc)) hbase hcross
  simp only [hregs, hi, ite_self] at hstored
  refine ⟨m, _, hm, (exec_eq_meaning i s).trans (by rw [hm, hmemory]; rfl), ?_⟩
  simpa using hstored _ _

/-- Settles O48: each runs its source in the shape of a high-byte store; only TAS writes a register first. -/
theorem highByteStores : Obligations.HighByteStores := by
  refine ⟨⟨encoded_of_cells (by decide), encoded_of_cells (by decide), encoded_of_cells (by decide),
    encoded_of_cells (by decide)⟩, ?_⟩
  rintro i s src sp hw (⟨ho, rfl, rfl⟩ | ⟨ho, rfl, rfl⟩ | ⟨ho, rfl, rfl⟩ | ⟨ho, rfl, rfl⟩)
  · exact exec_of_highStore (src := fun t => t.a &&& t.x) (pre := fun t => t.setSp (t.a &&& t.x)) ho rfl
      (fun _ _ => rfl) (fun _ => ⟨rfl, rfl, rfl, rfl, rfl⟩) hw
      (fun t ht => by rw [setSp_regs, ht, a_eq_of_regs ht, x_eq_of_regs ht])
  · exact exec_of_highStore (src := fun t => t.a &&& t.x) (pre := id) ho rfl (fun _ _ => rfl) Quiet.refl hw (fun _ ht => ht)
  · exact exec_of_highStore (src := State.x) (pre := id) ho rfl (fun _ _ => rfl) Quiet.refl hw (fun _ ht => ht)
  · exact exec_of_highStore (src := State.y) (pre := id) ho rfl (fun _ _ => rfl) Quiet.refl hw (fun _ ht => ht)

/-! ## ARR (R312) -/

theorem arrBinary_eq (t : Byte) (f : Flags) : arrBinary t f =
    ((ror t f).1, { f with
      n := (ror t f).1.getLsbD 7, z := (ror t f).1 == 0, v := (ror t f).1.getLsbD 6 != (ror t f).1.getLsbD 5,
      c := (ror t f).1.getLsbD 6 }) := rfl

theorem toNat_and_one (a : Byte) : (a &&& 0x01).toNat = a.toNat % 2 := Nat.and_one_is_mod a.toNat

theorem toNat_shiftRight_four (a : Byte) : (a >>> 4).toNat = a.toNat / 16 :=
  Nat.shiftRight_eq_div_pow a.toNat 4

/-- The two digits do not overlap, so the OR is a sum. -/
theorem hiNibble_or_loNibble_toNat (a b : Byte) :
    ((a &&& 0xF0) ||| (b &&& 0x0F)).toNat = a.toNat / 16 * 16 + b.toNat % 16 := by
  have hdisjoint := Nat.two_pow_add_eq_or_of_lt (i := 4) (b := b.toNat % 16) (by omega) (a.toNat / 16)
  rw [BitVec.toNat_or, hiNibble_toNat, loNibble_toNat, Nat.mul_comm, ← hdisjoint]

theorem and_0x40_bne_zero (a : Byte) : (a &&& 0x40 != 0) = a.getLsbD 6 := by
  have hbit : a &&& 0x40 = if a.getLsbD 6 then 0x40 else 0 := BitVec.and_twoPow a 6
  rw [hbit]
  cases a.getLsbD 6 <;> rfl

/-- The low digit of the rotated byte `r`, adjusted within the digit. -/
theorem arrLowDigit_eq_ofNat (t r : Byte) :
    (if 5 < (t &&& 0x0F).toNat + (t &&& 0x01).toNat then (r &&& 0xF0) ||| ((r + 6) &&& 0x0F) else r) =
      BitVec.ofNat 8
        (if 5 < t.toNat % 16 + t.toNat % 2 then r.toNat / 16 * 16 + (r.toNat % 16 + 6) % 16 else r.toNat) := by
  have hsix : (6 : Byte).toNat = 6 := rfl
  rw [loNibble_toNat, toNat_and_one]
  apply BitVec.eq_of_toNat_eq
  split
  · rw [hiNibble_or_loNibble_toNat, BitVec.toNat_add, hsix, BitVec.toNat_ofNat]
    omega
  · rw [BitVec.ofNat_toNat, BitVec.setWidth_eq]

theorem arrDecimal_eq (t : Byte) (f : Flags) :
    let r := (ror t f).1
    let low := r.toNat % 16
    let fixed := if 5 < t.toNat % 16 + t.toNat % 2 then r.toNat / 16 * 16 + (low + 6) % 16 else r.toNat
    let carry := decide (5 < t.toNat / 16 + t.toNat / 16 % 2)
    arrDecimal t f = (BitVec.ofNat 8 (if carry then fixed + 0x60 else fixed),
      { f with n := f.c, z := r == 0, v := t.getLsbD 6 != r.getLsbD 6, c := carry }) := by
  intro r low fixed carry
  have hcarry : decide (5 < (t >>> 4).toNat + ((t >>> 4) &&& 0x01).toNat) = carry := by
    rw [toNat_and_one, toNat_shiftRight_four]
  have hv : ((t ^^^ r) &&& 0x40 != 0) = (t.getLsbD 6 != r.getLsbD 6) := by
    rw [and_0x40_bne_zero, BitVec.getLsbD_xor]
  have hsum : BitVec.ofNat 8 (if carry then fixed + 0x60 else fixed) =
      if carry then BitVec.ofNat 8 fixed + 0x60 else BitVec.ofNat 8 fixed := by
    split
    · exact BitVec.ofNat_add _ _
    · rfl
  rw [hsum, ← arrLowDigit_eq_ofNat t r, ← hcarry, ← hv]
  rfl

/-- Settles O47: ARR passes the guard and runs its operation on its immediate operand, or the guard refuses it. -/
theorem andThenRotate : Obligations.AndThenRotate := by
  refine ⟨encoded_of_cells (by decide), fun s v => ⟨fun haccepts => ?accepted, fun hmode hd => ?refused⟩⟩
  case accepted =>
    simp only [← ror_result]
    refine exec_of_immediateOperation (f := opArr) (o := .arr) rfl nofun opArr_quiet ?_ rfl
      (fun _ => State.decimalGuard_accepts haccepts) fun t ht _ => ?_
    · split <;> rfl
    · rw [opArr_regs, ht, a_eq_of_regs ht, flags_eq_of_regs ht, arrByte]
      split
      next hd => rw [arrDecimal_eq]; rfl
      next hd => rw [arrBinary_eq]; rfl
  case refused => exact exec_refused hmode hd (show Operation.arr ∈ _ by decide)

end Sys2Proof.Machine
end

section
/-! SUPPORT. What a boundary takes and what its entry does (spec 60_exceptions.md R406 to R413, 10_state.md R42): the boundary's
inputs and latch field by field, the interrupt entry, the end of an instruction for the NMI latch and the report, and from these
every step with given inputs, `step_cases_of_inputs`. -/

namespace Sys2Proof.Machine

variable {s t u : State} {irq nmi : Bool} {queue : List HostEvent} {e : StepEvent} {vec : Word}

/-! ## The state in which the choice of a boundary is carried out (R408) -/

theorem nmiDue_eq_true_iff : s.nmiDue nmi = true ↔ s.nmiPending = true ∨ nmi = true ∧ s.nmiPrev = false := by
  simp [State.nmiDue]

@[simp] theorem latched_platform : (s.latched irq nmi queue).platform = (s.withInputs irq nmi queue).platform := rfl
@[simp] theorem latched_hidden : (s.latched irq nmi queue).hidden =
    { s.hidden with nmiPrev := nmi, nmiPending := s.nmiDue nmi } := rfl
@[simp] theorem latched_nmiPrev : (s.latched irq nmi queue).nmiPrev = nmi := rfl
@[simp] theorem latched_nmiPending : (s.latched irq nmi queue).nmiPending = s.nmiDue nmi := rfl
@[simp] theorem acknowledgeNmi_platform : s.acknowledgeNmi.platform = s.platform := rfl
@[simp] theorem acknowledgeNmi_hidden : s.acknowledgeNmi.hidden = { s.hidden with nmiPending := false } := rfl

/-! ## The interrupt entry (R412) -/

@[simp] theorem interruptEntry_hidden :
    (s.interruptEntry e vec).hidden = { s.hidden with iPoll := true, pollOk := false } := by
  simp [State.interruptEntry, State.hidden]

@[simp] theorem interruptEntry_nmiPrev : (s.interruptEntry e vec).nmiPrev = s.nmiPrev := by simp [State.interruptEntry]
@[simp] theorem interruptEntry_nmiPending : (s.interruptEntry e vec).nmiPending = s.nmiPending := by
  simp [State.interruptEntry]
@[simp] theorem interruptEntry_platform : (s.interruptEntry e vec).platform = s.platform := by
  simp [State.interruptEntry, State.platform]

@[simp] theorem interruptEntry_outcome : (s.interruptEntry e vec).outcome = .ok := by simp [State.interruptEntry]
@[simp] theorem interruptEntry_event : (s.interruptEntry e vec).event = e := by simp [State.interruptEntry]
@[simp] theorem interruptEntry_cycles : (s.interruptEntry e vec).cycles = 7 := by simp [State.interruptEntry]

/-- `t` is the state after the entry `e` through `vec`, taken with the registers and the memory of `s`, but for the hidden state
and the platform. -/
structure EntersInterrupt (s t : State) (e : StepEvent) (vec : Word) : Prop where
  pushed : s.Pushed t [hiByte s.pc, loByte s.pc, s.flags.pread false]
  regs : t.regs = { s.regs with
    sp := s.sp - 3, pc := wordOf (s.peek (vec + 1)) (s.peek vec), flags := { s.flags with i := true } }
  outcome : t.outcome = .ok
  event : t.event = e
  cycles : t.cycles = 7
  trace : t.trace = [s.rd s.pc, s.rd s.pc, wr (stackAddr s.sp) (hiByte s.pc), wr (stackAddr (s.sp - 1)) (loByte s.pc),
    wr (stackAddr (s.sp - 2)) (s.flags.pread false), s.rd vec, s.rd (vec + 1)]

/-- BRK pushes with B = 1, an interrupt entry with B = 0 (10_state.md R27). -/
theorem pushed_afterPushes (hw : s.mem.wf = true) (b : Bool) :
    s.Pushed (s.afterPushes b) [hiByte s.pc, loByte s.pc, s.flags.pread b] := by
  have hhigh := s.pushed_nil.push (hiByte s.pc) hw (by decide)
  have hlow := hhigh.push (loByte s.pc) (State.push_wf hw _) (by simp)
  exact hlow.push (s.flags.pread b) (State.push_wf (State.push_wf hw _) _) (by simp)

/-- Two discarded reads at PC, then the exception with B = 0. -/
theorem interruptEntry_enters (hw : s.mem.wf = true) (h₁ : 0x0200 ≤ vec.toNat) (h₂ : 0x0200 ≤ (vec + 1).toNat) :
    EntersInterrupt s (s.interruptEntry e vec) e vec := by
  have hwf : ((s.clearTrace.dummyRead s.pc).dummyRead s.pc).mem.wf = true := hw
  have htarget := State.takeException_pc vec false hwf h₁ h₂
  have htrace := State.takeException_trace vec false hwf h₁ h₂
  have hpushed : s.Pushed (((s.clearTrace.dummyRead s.pc).dummyRead s.pc).afterPushes false)
      [hiByte s.pc, loByte s.pc, s.flags.pread false] := (pushed_afterPushes hwf false).of_same
  refine ⟨fun a => ?_, ?_, by simp, by simp, by simp, ?_⟩
  · simpa [State.interruptEntry, State.takeException_peek] using hpushed a
  · simpa [State.interruptEntry, State.regs] using htarget
  · simpa [State.interruptEntry, State.rd] using htrace

/-! ## The two interrupts (R407, R408, R412) -/

/-- Settles O9: an NMI that is due takes the entry of its vector, with the latch cleared first. -/
theorem nmiEntry : Obligations.NmiEntry := by
  intro s irq nmi queue hw hinputs hrunning hpoll hdue
  refine ⟨_, step_nmi hinputs hrunning hpoll (nmiDue_eq_true_iff.mpr hdue), ?_⟩
  have hwf : (s.latched irq nmi queue).acknowledgeNmi.mem.wf = true := hw
  obtain ⟨hpushed, hregs, houtcome, hevent, hcycles, htrace⟩ :=
    interruptEntry_enters (e := .nmi) (vec := vectorNmi) hwf (by decide) (by decide)
  refine ⟨hpushed, hregs, ?hidden, by simp, houtcome, hevent, hcycles, htrace⟩
  rw [interruptEntry_hidden, acknowledgeNmi_hidden, latched_hidden, ← hrunning]
  rfl

/-- Settles O10: with no NMI due, an unmasked IRQ takes the entry of its vector. -/
theorem irqEntry : Obligations.IrqEntry := by
  intro s nmi queue hw hinputs hrunning hpoll hpending hnoEdge hunmasked
  have hdue : s.nmiDue nmi = false := by
    rcases hnoEdge with h | h <;> simp [State.nmiDue, hpending, h]
  refine ⟨_, step_irq hinputs hrunning hpoll hdue rfl hunmasked, ?_⟩
  have hwf : (s.latched true nmi queue).mem.wf = true := hw
  obtain ⟨hpushed, hregs, houtcome, hevent, hcycles, htrace⟩ :=
    interruptEntry_enters (e := .irq) (vec := vectorIrq) hwf (by decide) (by decide)
  refine ⟨hpushed, hregs, ?hidden, by simp, houtcome, hevent, hcycles, htrace⟩
  rw [interruptEntry_hidden, latched_hidden, hdue, ← hrunning]
  rfl

/-! ## The end of an instruction -/

/-- `t` is a state that an instruction begun in `s` ends in, for the NMI latch, which no instruction touches (10_state.md R37),
and the name of the event (60_exceptions.md R400). -/
structure EndsInstruction (s t : State) : Prop where
  nmiPrev : t.nmiPrev = s.nmiPrev
  nmiPending : t.nmiPending = s.nmiPending
  event : t.event = .brk ∨ ∃ op, t.event = .instruction op

/-- The event of an instruction is none of the others. -/
theorem EndsInstruction.event_ne (h : EndsInstruction s t) :
    t.event ≠ .reset ∧ t.event ≠ .idle ∧ t.event ≠ .nmi ∧ t.event ≠ .irq := by
  obtain hevent | ⟨op, hevent⟩ := h.event <;> simp [hevent]

variable {o : Operation} {r : Operand} {m : MemOperand} {op v : Byte} {i₀ crossed : Bool} {p : Nat}

theorem eventOf_cases (op : Byte) : eventOf op = .brk ∨ ∃ op', eventOf op = .instruction op' := by
  unfold eventOf
  split
  · exact .inl rfl
  · exact .inr ⟨op, rfl⟩

/-- Cycles and operations that leave the hidden state, up to the common end. -/
theorem EndsInstruction.finish (h : u.hidden = s.hidden) : EndsInstruction s (u.finish op i₀ crossed p) where
  nmiPrev := (State.finish_nmiPrev ..).trans (congrArg Hidden.nmiPrev h)
  nmiPending := (State.finish_nmiPending ..).trans (congrArg Hidden.nmiPending h)
  event := eventOf_cases op

@[simp] theorem begin_hidden : (s.begin op).hidden = s.hidden := rfl
@[simp] theorem memWrite_hidden (w : Word) : (s.memWrite w v).hidden = s.hidden := rfl
@[simp] theorem readOperand_hidden : (resolve m s).readOperand.2.hidden = s.hidden := by simp [State.hidden]
@[simp] theorem fixupRead_hidden : (resolve m s).fixupRead.hidden = s.hidden := by simp [State.hidden]

theorem impliedOp_hidden (o : Operation) (u : State) : (impliedOp o u).hidden = u.hidden := by
  unfold impliedOp
  split
  case h_7 => exact (registerOp_quiet u _).hidden
  all_goals simp [State.hidden, opPha, opPhp, opPla, opPlp, opRts, opRti, pullAfterDummy, State.returnFromException_eq]

theorem runImplied_ends {f : State → State} (hf : ∀ u, (f u).hidden = u.hidden) (h : runImplied op f s = .next t) :
    EndsInstruction s t := by
  cases h
  exact .finish (hf _)

theorem runImmediate_ends {f : Byte → State → State} (hf : ∀ v u, Quiet u (f v u))
    (h : runImmediate op v f s = .next t) : EndsInstruction s t := by
  cases h
  exact .finish (hf _ _).hidden

theorem runRead_ends {f : Byte → State → State} (hf : ∀ v u, Quiet u (f v u)) (h : runRead op m f s = .next t) :
    EndsInstruction s t := by
  cases h
  exact .finish ((hf _ _).hidden.trans (by simp))

theorem runWrite_ends {value : State → Byte} (h : runWrite op m value s = .next t) : EndsInstruction s t := by
  cases h
  exact .finish (by simp)

theorem runModify_ends {f : Byte → State → Byte × State} (hf : ∀ v u, Quiet u (f v u).2)
    (h : runModify op m f s = .next t) : EndsInstruction s t := by
  cases h
  rw [modifyOperand_eq]
  exact .finish ((hf _ _).hidden.trans (fixupRead_hidden (s := s.begin op)))

theorem runHighStore_ends {src : State → Byte} {pre : State → State} (hp : ∀ u, (pre u).hidden = u.hidden)
    (h : runHighStore op m src pre s = .next t) : EndsInstruction s t := by
  cases h
  exact .finish ((hp _).trans (fixupRead_hidden (s := s.begin op)))

theorem runBranch_ends {off : Byte} {cond : Flags → Bool} (h : runBranch op off cond s = .next t) :
    EndsInstruction s t := by
  unfold runBranch at h
  dsimp only at h
  generalize cond s.flags = taken at h
  generalize (hiByte _ != hiByte _) = crossed at h
  cases taken <;> cases crossed <;> cases h <;> exact .finish (by simp [State.hidden])

theorem execJmpAbs_ends {w : Word} (h : execJmpAbs w s = .next t) : EndsInstruction s t := by
  cases h
  exact .finish (by simp [State.hidden])

theorem execJmpInd_ends {w : Word} (h : execJmpInd w s = .next t) : EndsInstruction s t := by
  cases h
  exact .finish (by simp [State.hidden, jumpIndirect])

theorem execJsr_ends {w : Word} (h : execJsr w s = .next t) : EndsInstruction s t := by
  cases h
  exact .finish (by simp [State.hidden, callSubroutine])

theorem execBrk_ends (h : execBrk s = .next t) : EndsInstruction s t := by
  cases h
  exact ⟨by simp, by simp, eventOf_cases 0x00#8⟩

theorem impliedMeaning_ends (h : impliedMeaning o op s = .next t) : EndsInstruction s t := by
  unfold impliedMeaning at h
  split at h
  next => exact execBrk_ends h
  next =>
    cases h
    exact ⟨rfl, rfl, .inr ⟨op, rfl⟩⟩
  next => exact runImplied_ends (impliedOp_hidden _) h

theorem memoryMeaning_ends (h : memoryMeaning o m op s = .next t) : EndsInstruction s t := by
  unfold memoryMeaning at h
  split at h
  next => exact execJmpAbs_ends h
  next => exact execJsr_ends h
  iterate 4 next => exact runHighStore_ends (fun _ => by rfl) h
  next =>
    split at h
    · exact runWrite_ends h
    · exact runModify_ends (fun v u => modifyOp_quiet u _ v) h
    · exact runRead_ends (fun v u => readOp_quiet u _ v) h
    · exact runRead_ends (fun v u => readOp_quiet u _ v) h

theorem operandMeaning_ends (h : operandMeaning o r op s = .next t) : EndsInstruction s t := by
  cases r with
  | implied => exact impliedMeaning_ends h
  | accumulator => exact runImplied_ends (fun u => (accumulator_quiet u o).hidden) h
  | immediate v => exact runImmediate_ends (fun v u => immediateOp_quiet u o v) h
  | memory m => exact memoryMeaning_ends h
  | indirect w => exact execJmpInd_ends h
  | relative off => exact runBranch_ends h

theorem exec_endsInstruction {i : Instr} (h : exec i s = .next t) : EndsInstruction s t :=
  operandMeaning_ends (operandMeaning_of_exec h)

/-! ## Every step with given inputs (R42, R410) -/

/-- The host's call at a boundary fixes the inputs. -/
theorem State.Inputs.unique {irq' nmi' : Bool} {queue' : List HostEvent} (h : s.Inputs irq nmi queue)
    (h' : s.Inputs irq' nmi' queue') : irq' = irq ∧ nmi' = nmi ∧ queue' = queue := by
  rcases h with h | ⟨h, rfl, rfl, rfl⟩ <;> rcases h' with h' | ⟨h', rfl, rfl, rfl⟩ <;> simp_all

theorem State.Inputs.host_ne_reset (h : s.Inputs irq nmi queue) (queue' : List HostEvent) : s.host ≠ .reset :: queue' := by
  rcases h with h | ⟨h, -⟩ <;> simp [h]

/-- A step with given inputs that answers a next state is a halted step, an NMI entry, an IRQ entry or an instruction, each under
its condition. -/
theorem step_cases_of_inputs (hinputs : s.Inputs irq nmi queue) (h : step s = .next t) :
    s.halted = true ∧ t = (s.withInputs irq nmi queue).stayHalted ∨
    s.halted = false ∧
      (s.pollOk = true ∧ s.nmiDue nmi = true ∧
        t = (s.latched irq nmi queue).acknowledgeNmi.interruptEntry .nmi vectorNmi ∨
       s.pollOk = true ∧ s.nmiDue nmi = false ∧ irq = true ∧ s.iPoll = false ∧
        t = (s.latched irq nmi queue).interruptEntry .irq vectorIrq ∨
       (s.pollOk = false ∨ s.nmiDue nmi = false ∧ (irq = false ∨ s.iPoll = true)) ∧
        EndsInstruction (s.latched irq nmi queue) t) := by
  obtain ⟨_, hreset, -⟩ | ⟨_, _, _, hinputs', hcases⟩ := step_cases s
  · exact absurd hreset (hinputs.host_ne_reset _)
  obtain ⟨rfl, rfl, rfl⟩ := hinputs.unique hinputs'
  rw [h] at hcases
  simp only [Host.Outcome.next.injEq] at hcases
  obtain hhalted | ⟨hrunning, hnmi | hirq | ⟨hquiet, hexec⟩⟩ := hcases
  · exact .inl hhalted
  · exact .inr ⟨hrunning, .inl hnmi⟩
  · exact .inr ⟨hrunning, .inr (.inl hirq)⟩
  · exact .inr ⟨hrunning, .inr (.inr ⟨hquiet, exec_endsInstruction hexec.symm⟩)⟩

/-- Settles O11: each kind of step reports its own event, and the conditions of the kinds exclude each other. -/
theorem eventPriority : Obligations.EventPriority := by
  refine ⟨fun s t queue hreset h => ?reset, fun s t irq nmi queue hinputs h => ?levels⟩
  case reset =>
    obtain rfl := Host.Outcome.next.inj ((step_reset hreset).symm.trans h)
    exact State.takeReset_event _
  case levels =>
    rw [← nmiDue_eq_true_iff]
    obtain ⟨hhalted, rfl⟩ | ⟨hrunning, ⟨hpoll, hdue, rfl⟩ | ⟨hpoll, hdue, hirq, hmask, rfl⟩ | ⟨hquiet, hend⟩⟩ :=
      step_cases_of_inputs hinputs h
    · -- halted
      simp [State.stayHalted, hhalted]
    · -- NMI
      simp [hrunning, hpoll, hdue]
    · -- IRQ
      simp [hrunning, hpoll, hdue, hirq, hmask]
    · -- an instruction
      obtain ⟨hreset, hidle, hnmi, hirq⟩ := hend.event_ne
      refine ⟨hreset, ?_⟩
      simp only [hidle, hnmi, hirq, hrunning]
      rcases hquiet with hpoll | ⟨hdue, hlow | hmask⟩
      · simp [hpoll]
      · simp [hdue, hlow]
      · simp [hdue, hmask]

/-- Settles O12: the boundary latches the edge, the NMI entry clears the latch, and an IRQ entry and an instruction leave it. -/
theorem nmiEdgeIsLatchedUntilTaken : Obligations.NmiEdgeIsLatchedUntilTaken := by
  intro s t irq nmi queue hinputs hrunning h
  rw [← nmiDue_eq_true_iff]
  obtain ⟨hhalted, -⟩ | ⟨-, ⟨-, -, rfl⟩ | ⟨-, -, -, -, rfl⟩ | ⟨-, hend⟩⟩ := step_cases_of_inputs hinputs h
  · exact absurd hhalted (by simp [hrunning])
  · -- NMI
    simp
  · -- IRQ
    simp
  · -- an instruction
    obtain ⟨-, -, hnmi, -⟩ := hend.event_ne
    exact ⟨hend.nmiPrev, by simp [hend.nmiPending, hnmi]⟩

end Sys2Proof.Machine
end

section
/-! SUPPORT. What a reset call does in every state, and the state after power-on (spec 70_reset_and_hazards.md R450 to R453,
10_state.md R36 to R39): the reset sequence of Laws/Ops.lean at the step's boundary and from the draws. -/

namespace Sys2Proof.Machine

theorem takeReset_regs (s : State) : s.takeReset.regs = { s.regs with
    sp := s.sp - 3, pc := wordOf (s.peek 0xFFFD#16) (s.peek 0xFFFC#16), flags := { s.flags with i := true } } := by
  simp [State.regs]

/-- Settles O13: the reset sequence, taken with the queue behind the call. -/
theorem resetSequence : Obligations.ResetSequence := by
  intro s queue hreset
  exact ⟨_, step_reset hreset, State.takeReset_peek _, takeReset_regs _, State.takeReset_hidden _,
    State.takeReset_platform _, State.takeReset_outcome _, State.takeReset_event _, State.takeReset_cycles _,
    State.takeReset_trace _⟩

/-- Settles O14: the reset sequence from the drawn state, and the values of the state after reset. -/
theorem powerOnState : Obligations.PowerOnState := by
  exact ⟨fun p mem readOnly config => ⟨takeReset_regs _, State.takeReset_hidden _, State.takeReset_mem _⟩,
    rfl, rfl, rfl, rfl, rfl, rfl, rfl, rfl⟩

/-- Settles O15: memory lists nothing, seven accesses in seven cycles, outcome OK, I and the polled I set. -/
theorem invHoldsAtReset : Obligations.InvHoldsAtReset where
  memory := rfl
  cycles := rfl
  outcome := by decide
  handler _ := ⟨rfl, rfl⟩

end Sys2Proof.Machine
end

section
/-! SUPPORT. The realized cycle count of an instruction and the length of its bus trace (spec 70_reset_and_hazards.md R455 to
R459): the bus accesses of each class of instructions are counted and compared with the base count and the marks of the
descriptor. -/

namespace Sys2Proof.Machine

variable {i : Instr} {s t u : State} {m : MemOperand} {op : Byte} {i₀ crossed : Bool} {p k : Nat}

/-! ## The count of R455 -/

/-- Whether the instruction's memory operand crosses a page (40_addressing.md R125). -/
def operandCrosses (r : Operand) (s : State) : Bool :=
  match r with
  | .memory m => pageCrossed m s
  | .implied | .accumulator | .immediate _ | .indirect _ | .relative _ => false

/-- The extra cycles of a branch that is taken (70_reset_and_hazards.md R458). -/
def branchPenalty (o : Operation) (r : Operand) (s : State) : Nat :=
  match r with
  | .relative off =>
    if branchTaken o s.flags = true then
      if hiByte (s.pc + 2 + sext16 off) = hiByte (s.pc + 2) then 1 else 2
    else 0
  | .memory _ | .implied | .accumulator | .immediate _ | .indirect _ => 0

/-- The realized cycle count of `i` in `s`, from its descriptor and its operand (R455). -/
def cycleCount (i : Instr) (s : State) : Nat :=
  realizedCycles (descriptor i.opcode) (operandCrosses i.operand s) (branchPenalty i.operation i.operand s)

theorem cycleCount_of_memory (h : i.operand = .memory m) :
    cycleCount i s = realizedCycles (descriptor i.opcode) (pageCrossed m s) 0 := by
  simp only [cycleCount, h, operandCrosses, branchPenalty]

theorem realizedCycles_of_base {d : Descriptor} (h : d.baseCycles = some k) : realizedCycles d false 0 = k := by
  simp [realizedCycles, h]

/-- Without the mark of R457 a crossing costs nothing. -/
theorem realizedCycles_of_unmarked {d : Descriptor} (h : d.baseCycles = some k ∧ d.extraOnCross = false) :
    realizedCycles d crossed p = k + p := by
  simp [realizedCycles, h]

/-- The read class is marked exactly in the modes that can cross a page (R457). -/
theorem realizedCycles_of_read (h : (descriptor op).baseCycles = some (readBase m) ∧
    (descriptor op).extraOnCross = (index16 m s).isSome) :
    realizedCycles (descriptor op) (pageCrossed m s) 0 = readBase m + if pageCrossed m s then 1 else 0 := by
  obtain ⟨hbase, hcross⟩ := h
  simp only [realizedCycles, hbase, hcross, Nat.add_zero]
  rcases hindex : index16 m s with _ | r
  · simp [pageCrossed_of_not_indexed hindex]
  · simp

/-! ## The bus accesses of each class -/

/-- The accesses before the operand of a write or read-modify-write: all but one of the write class's (R456). -/
theorem fixupRead_trace_length : (resolve m (s.begin op)).fixupRead.trace.length + 1 = writeBase m := by
  rw [fixupRead_trace]
  cases m <;> rfl

/-- The read class makes one access more where the page is crossed (40_addressing.md R120, R122). -/
theorem readOperand_trace_length : (resolve m (s.begin op)).readOperand.2.trace.length =
    readBase m + if pageCrossed m s then 1 else 0 := by
  rw [readOperand_trace, pageCrossed_begin]
  cases pageCrossed m s <;> cases m <;> rfl

theorem takeException_trace_length (b : Bool) (vec : Word) :
    (s.takeException b vec).trace.length = s.trace.length + 5 := by
  simp [State.takeException_eq, State.jumpVector_eq, State.afterPushes]

/-- The bus accesses of the stack operations after their first two (40_addressing.md R114). -/
def stackAccesses : Operation → Nat
  | .pha | .php => 1
  | .pla | .plp => 2
  | .rts | .rti => 4
  | _ => 0

theorem impliedOp_trace_length (o : Operation) (u : State) :
    (impliedOp o u).trace.length = u.trace.length + stackAccesses o := by
  unfold impliedOp
  split
  case h_7 =>
    -- an operation on registers makes no access of its own
    rw [(registerOp_quiet u _).trace]
    unfold stackAccesses
    split <;> simp_all
  all_goals simp [opPha, opPhp, opPla, opPlp, opRts_eq, opRti_eq, pullAfterDummy, stackAccesses]

/-! ## The end of an instruction -/

/-- `t` ends an instruction other than JAM, begun in `s`, after `k` cycles with one bus access each (10_state.md R42, R43). -/
structure EndsAfter (s t : State) (op : Byte) (k : Nat) : Prop where
  cycles : t.cycles = k
  accesses : t.trace.length = k
  outcome : t.outcome = .ok
  halted : t.halted = s.halted
  pollOk : t.pollOk = ((descriptor op).operation != .brk)

theorem Quiet.halted (h : Quiet s u) : u.halted = s.halted := congrArg Hidden.halted h.hidden

theorem EndsAfter.of_finish (hh : u.halted = s.halted)
    (hk : u.trace.length = realizedCycles (descriptor op) crossed p) :
    EndsAfter s (u.finish op i₀ crossed p) op (realizedCycles (descriptor op) crossed p) :=
  ⟨rfl, hk, rfl, hh, rfl⟩

theorem runImplied_endsAfter {f : State → State} (hf : ∀ u, (f u).hidden = u.hidden)
    (htrace : ∀ u, (f u).trace.length = u.trace.length + k) (hbase : (descriptor op).baseCycles = some (2 + k))
    (h : runImplied op f s = .next t) : EndsAfter s t op (realizedCycles (descriptor op) false 0) := by
  cases h
  refine .of_finish (congrArg Hidden.halted (hf _)) ?_
  rw [htrace, realizedCycles_of_base hbase]
  simp

theorem runImmediate_endsAfter {f : Byte → State → State} (hf : ∀ v u, Quiet u (f v u))
    (hbase : (descriptor op).baseCycles = some 2) (h : runImmediate op v f s = .next t) :
    EndsAfter s t op (realizedCycles (descriptor op) false 0) := by
  cases h
  refine .of_finish (hf _ _).halted ?_
  rw [(hf _ _).trace, realizedCycles_of_base hbase]
  rfl

theorem runRead_endsAfter {f : Byte → State → State} (hf : ∀ v u, Quiet u (f v u))
    (hd : (descriptor op).baseCycles = some (readBase m) ∧ (descriptor op).extraOnCross = (index16 m s).isSome)
    (h : runRead op m f s = .next t) : EndsAfter s t op (realizedCycles (descriptor op) (pageCrossed m s) 0) := by
  cases h
  rw [resolve_crossed, pageCrossed_begin]
  refine .of_finish ((hf _ _).halted.trans (by simp)) ?_
  rw [(hf _ _).trace, readOperand_trace_length, realizedCycles_of_read hd]

theorem runHighStore_endsAfter {src : State → Byte} {pre : State → State} (hp : ∀ u, Quiet u (pre u))
    (hd : (descriptor op).baseCycles = some (writeBase m) ∧ (descriptor op).extraOnCross = false)
    (h : runHighStore op m src pre s = .next t) :
    EndsAfter s t op (realizedCycles (descriptor op) (pageCrossed m s) 0) := by
  cases h
  rw [resolve_crossed, pageCrossed_begin]
  refine .of_finish ((hp _).halted.trans (by simp)) ?_
  rw [State.memWrite_trace, List.length_append, (hp _).trace, realizedCycles_of_unmarked hd]
  exact fixupRead_trace_length

theorem runWrite_endsAfter {value : State → Byte}
    (hd : (descriptor op).baseCycles = some (writeBase m) ∧ (descriptor op).extraOnCross = false)
    (h : runWrite op m value s = .next t) : EndsAfter s t op (realizedCycles (descriptor op) (pageCrossed m s) 0) := by
  cases h
  rw [resolve_crossed, pageCrossed_begin]
  refine .of_finish (by simp) ?_
  rw [writeOperand_eq, State.memWrite_trace, List.length_append, realizedCycles_of_unmarked hd]
  exact fixupRead_trace_length

theorem runModify_endsAfter {f : Byte → State → Byte × State} (hf : ∀ v u, Quiet u (f v u).2)
    (hd : (descriptor op).baseCycles = some (writeBase m + 2) ∧ (descriptor op).extraOnCross = false)
    (h : runModify op m f s = .next t) : EndsAfter s t op (realizedCycles (descriptor op) (pageCrossed m s) 0) := by
  cases h
  rw [resolve_crossed, pageCrossed_begin, modifyOperand_eq]
  refine .of_finish ((hf _ _).halted.trans (by simp)) ?_
  rw [State.memWrite_trace, List.length_append, (hf _ _).trace, realizedCycles_of_unmarked hd,
    ← fixupRead_trace_length (s := s) (op := op)]
  simp

theorem execJmpAbs_endsAfter {w : Word} (h : execJmpAbs w s = .next t) :
    EndsAfter s t 0x4C#8 (realizedCycles (descriptor 0x4C#8) false 0) := by
  cases h
  exact .of_finish (by simp) (by simp [realizedCycles])

theorem execJmpInd_endsAfter {w : Word} (h : execJmpInd w s = .next t) :
    EndsAfter s t 0x6C#8 (realizedCycles (descriptor 0x6C#8) false 0) := by
  cases h
  exact .of_finish (by simp [jumpIndirect_eq]) (by simp [jumpIndirect_eq, realizedCycles])

theorem execJsr_endsAfter {w : Word} (h : execJsr w s = .next t) :
    EndsAfter s t 0x20#8 (realizedCycles (descriptor 0x20#8) false 0) := by
  cases h
  exact .of_finish (by simp [callSubroutine_eq, State.afterCall])
    (by simp [callSubroutine_eq, afterCall_trace, realizedCycles])

theorem execBrk_endsAfter (h : execBrk s = .next t) :
    EndsAfter s t 0x00#8 (realizedCycles (descriptor 0x00#8) false 0) := by
  cases h
  exact .of_finish (by simp) (by simp [takeException_trace_length, realizedCycles])

/-! ## Every instruction -/

theorem opcodeMap_implied_baseCycles (r c : Fin 16) (h : opcodeMap[r][c].mode = .implied)
    (hjam : opcodeMap[r][c].operation ≠ .jam) (hbrk : opcodeMap[r][c].operation ≠ .brk) :
    opcodeMap[r][c].baseCycles = some (2 + stackAccesses opcodeMap[r][c].operation) := by
  revert r c; decide

theorem descriptor_of_implied (h : i.operand = .implied) (hjam : i.operation ≠ .jam) (hbrk : i.operation ≠ .brk) :
    (descriptor i.opcode).baseCycles = some (2 + stackAccesses i.operation) := by
  obtain ⟨hoperation, hmode⟩ := descriptor_opcode i
  rw [hoperation] at hjam hbrk ⊢
  exact opcodeMap_implied_baseCycles _ _ (hmode.symm.trans (congrArg Operand.mode h)) hjam hbrk

theorem eq_brk_of_operation (h : i.operation = .brk) : i = .brk := by
  cases i <;> cases h; rfl

theorem impliedMeaning_endsAfter (hi : i.operand = .implied) (hjam : i.operation ≠ .jam)
    (h : impliedMeaning i.operation i.opcode s = .next t) :
    EndsAfter s t i.opcode (realizedCycles (descriptor i.opcode) false 0) := by
  unfold impliedMeaning at h
  split at h
  next hbrk =>
    obtain rfl := eq_brk_of_operation hbrk
    exact execBrk_endsAfter h
  next hj => exact absurd hj hjam
  next hbrk _ =>
    exact runImplied_endsAfter (impliedOp_hidden _) (impliedOp_trace_length _) (descriptor_of_implied hi hjam hbrk) h

/-- A memory operand outside the three access classes is the target of JMP or JSR (44_control.md R250, R252). -/
theorem jump_of_memory (hm : i.operand = .memory m) (hc : i.operation.accessClass = none) :
    (∃ w, i = .jmpAbs w ∧ m = .abs w) ∨ ∃ w, i = .jsr w ∧ m = .abs w := by
  cases i <;> cases hm <;> cases hc
  case jmpAbs w => exact .inl ⟨w, rfl, rfl⟩
  case jsr w => exact .inr ⟨w, rfl, rfl⟩

theorem memoryMeaning_endsAfter (hm : i.operand = .memory m) (h : memoryMeaning i.operation m i.opcode s = .next t) :
    EndsAfter s t i.opcode (realizedCycles (descriptor i.opcode) (pageCrossed m s) 0) := by
  have hjump (hc : i.operation.accessClass = none) :
      EndsAfter s t i.opcode (realizedCycles (descriptor i.opcode) (pageCrossed m s) 0) := by
    obtain ⟨w, rfl, rfl⟩ | ⟨w, rfl, rfl⟩ := jump_of_memory hm hc
    · rw [pageCrossed_of_not_indexed rfl]
      exact execJmpAbs_endsAfter h
    · rw [pageCrossed_of_not_indexed rfl]
      exact execJsr_endsAfter h
  have hwrite := descriptor_of_write hm
  unfold memoryMeaning at h
  split at h
  next ho => exact hjump (congrArg Operation.accessClass ho)
  next ho => exact hjump (congrArg Operation.accessClass ho)
  iterate 4 next ho =>
    exact runHighStore_endsAfter (fun _ => by constructor <;> rfl) (hwrite (congrArg Operation.accessClass ho)) h
  next =>
    split at h
    next hc => exact runWrite_endsAfter (hwrite hc) h
    next hc => exact runModify_endsAfter (fun v u => modifyOp_quiet u _ v) (descriptor_of_modify hm hc) h
    next hc => exact runRead_endsAfter (fun v u => readOp_quiet u _ v) (descriptor_of_read hm hc) h
    next hc => exact hjump hc

/-- A branch makes one access more where it is taken and two where its target is on another page (R458). -/
theorem exec_relative_endsAfter {off : Byte} (hr : i.operand = .relative off) (h : exec i s = .next t) :
    EndsAfter s t i.opcode (cycleCount i s) := by
  obtain ⟨t', ht', -, -, hhidden, -, houtcome, -, htrace, hcycles⟩ := exec_of_branch hr rfl
  obtain rfl := Host.Outcome.next.inj (ht'.symm.trans h)
  obtain ⟨hcount, hbrk, -⟩ := descriptor_of_relative hr
  have hlength : t'.trace.length = cycleCount i s := by
    rw [htrace, cycleCount, hcount, hr, branchPenalty]
    cases branchTaken i.operation s.flags
    · rfl
    · rw [if_pos rfl, if_pos rfl]
      split <;> rfl
  exact {
    cycles := by rw [hcycles, ← htrace, hlength]
    accesses := hlength
    outcome := houtcome
    halted := congrArg Hidden.halted hhidden
    pollOk := (congrArg Hidden.pollOk hhidden).trans
      (bne_iff_ne.mpr (descriptor_operation_ne_brk hbrk)).symm }

theorem exec_endsAfter (hjam : i.operation ≠ .jam) (h : exec i s = .next t) :
    EndsAfter s t i.opcode (cycleCount i s) := by
  have hmeaning := operandMeaning_of_exec h
  rcases hr : i.operand with _ | _ | v | m | w | off
  case relative => exact exec_relative_endsAfter hr h
  case memory =>
    rw [hr] at hmeaning
    rw [cycleCount_of_memory hr]
    exact memoryMeaning_endsAfter hr hmeaning
  all_goals
    rw [hr] at hmeaning
    rw [cycleCount, hr]
  case implied => exact impliedMeaning_endsAfter hr hjam hmeaning
  case accumulator =>
    exact runImplied_endsAfter (k := 0) (fun u => (accumulator_quiet u _).hidden)
      (fun u => congrArg _ (accumulator_quiet u _).trace) (descriptor_of_accumulator hr) hmeaning
  case immediate =>
    exact runImmediate_endsAfter (fun v u => immediateOp_quiet u _ v) (descriptor_of_immediate hr) hmeaning
  case indirect =>
    have hi : i.opcode = 0x6C#8 := by cases i <;> cases hr; rfl
    rw [hi]
    exact execJmpInd_endsAfter hmeaning

theorem exec_jam_cycles_and_accesses (ho : i.operation = .jam) (h : exec i s = .next t) :
    t.cycles = cycleCount i s ∧ t.trace.length = cycleCount i s := by
  have hoperand : i.operand = .implied := by cases i <;> cases ho <;> rfl
  have hcount : cycleCount i s = realizedCycles (descriptor i.opcode) false 0 := by rw [cycleCount, hoperand]; rfl
  obtain rfl := Host.Outcome.next.inj ((exec_of_jam ho).symm.trans h)
  exact ⟨hcount.symm, (hcount.trans (realizedCycles_of_jam ho)).symm⟩

/-- The count of R455 is what an instruction reports and how many bus accesses it makes. -/
theorem exec_cycles_and_accesses (h : exec i s = .next t) :
    t.cycles = cycleCount i s ∧ t.trace.length = cycleCount i s := by
  by_cases ho : i.operation = .jam
  · exact exec_jam_cycles_and_accesses ho h
  · exact ⟨(exec_endsAfter ho h).cycles, (exec_endsAfter ho h).accesses⟩

/-- Settles O18: the count of R455 in terms of the descriptor and the operand. -/
theorem realizedCycleCount : Obligations.RealizedCycleCount := by
  intro i s t h
  rw [(exec_cycles_and_accesses h).1, cycleCount, realizedCycles]
  rcases hbase : (descriptor i.opcode).baseCycles with _ | base
  case none => rfl
  case some =>
    rcases hr : i.operand with _ | _ | v | m | w | off
    case relative =>
      obtain ⟨t', ht', -, hregs, -⟩ := exec_of_branch (s := s) hr rfl
      obtain rfl := Host.Outcome.next.inj (ht'.symm.trans h)
      have hnext : s.nextPc i = s.pc + 2 := by rw [State.nextPc, Instr.length, hr]; rfl
      have hpc : t'.pc = if branchTaken i.operation s.flags then s.pc + 2 + sext16 off else s.pc + 2 :=
        congrArg Regs.pc hregs
      rw [hnext, hpc]
      cases htaken : branchTaken i.operation s.flags <;> simp [branchPenalty, operandCrosses, htaken]
    all_goals simp [branchPenalty, operandCrosses]

/-! ## Every step -/

theorem interruptEntry_trace_length (e : StepEvent) (vec : Word) : (s.interruptEntry e vec).trace.length = 7 := by
  simp [State.interruptEntry, takeException_trace_length]

/-- Settles O17: a reset and an entry make seven accesses, a halted step none, and an instruction the count of R455. -/
theorem cyclesEqualTraceLength : Obligations.CyclesEqualTraceLength := by
  intro s t h
  obtain ⟨queue, -, hs⟩ | ⟨irq, nmi, queue, -, ⟨-, hs⟩ | ⟨-, ⟨-, -, hs⟩ | ⟨-, -, -, -, hs⟩ | ⟨-, hs⟩⟩⟩ := step_cases s
  · -- reset
    obtain rfl := Host.Outcome.next.inj (hs.symm.trans h)
    rw [State.takeReset_cycles, State.takeReset_trace]
    rfl
  · -- halted
    obtain rfl := Host.Outcome.next.inj (hs.symm.trans h)
    rfl
  · -- NMI
    obtain rfl := Host.Outcome.next.inj (hs.symm.trans h)
    rw [interruptEntry_cycles, interruptEntry_trace_length]
  · -- IRQ
    obtain rfl := Host.Outcome.next.inj (hs.symm.trans h)
    rw [interruptEntry_cycles, interruptEntry_trace_length]
  · -- the instruction at PC
    obtain ⟨hcycles, haccesses⟩ := exec_cycles_and_accesses (hs.symm.trans h)
    rw [hcycles, haccesses]

end Sys2Proof.Machine
end

section
/-! SUPPORT. Every step keeps the invariant (spec 10_state.md R36, R38, R39, R43, 70_reset_and_hazards.md R459): its parts one by
one, over the boundary and over the instruction. -/

namespace Sys2Proof.Machine

variable {i : Instr} {s t : State}

/-- The part of the invariant about interrupts held off (10_state.md R38, R39): I and the polled I are 1. -/
def State.Masked (s : State) : Prop := s.pollOk = false → s.iPoll = true ∧ s.flags.i = true

/-- The part of the invariant about the halted core (10_state.md R36, R43). -/
def State.HaltReported (s : State) : Prop := s.halted = true ↔ s.outcome = .halted

/-- JAM alone halts, and it says so (45_flags_nop_jam.md R290). -/
theorem exec_haltReported (hrunning : s.halted = false) (h : exec i s = .next t) : t.HaltReported := by
  by_cases ho : i.operation = .jam
  · obtain rfl := Host.Outcome.next.inj ((exec_of_jam ho).symm.trans h)
    exact ⟨fun _ => rfl, fun _ => rfl⟩
  · have hend := exec_endsAfter ho h
    simp [State.HaltReported, hend.halted, hend.outcome, hrunning]

theorem execBrk_masked (h : execBrk s = .next t) : t.Masked := by
  cases h
  simp [State.Masked, lagsPoll]

/-- JAM leaves I and the poll, BRK sets I, and after every other instruction an interrupt may be taken. -/
theorem exec_masked (hmasked : s.Masked) (h : exec i s = .next t) : t.Masked := by
  by_cases ho : i.operation = .jam
  · obtain rfl := Host.Outcome.next.inj ((exec_of_jam ho).symm.trans h)
    exact hmasked
  by_cases hbrk : i.operation = .brk
  · obtain rfl := eq_brk_of_operation hbrk
    exact execBrk_masked h
  · intro hpoll
    rw [(exec_endsAfter ho h).pollOk] at hpoll
    exact absurd hpoll (by simp [descriptor_operation_ne_brk hbrk])

theorem interruptEntry_haltReported (hrunning : s.halted = false) (e : StepEvent) (vec : Word) :
    (s.interruptEntry e vec).HaltReported := by
  simp [State.HaltReported, State.interruptEntry, hrunning]

theorem interruptEntry_masked (e : StepEvent) (vec : Word) : (s.interruptEntry e vec).Masked := by
  simp [State.Masked, State.interruptEntry]

theorem stayHalted_haltReported (hhalted : s.halted = true) : s.stayHalted.HaltReported :=
  ⟨fun _ => rfl, fun _ => hhalted⟩

theorem takeReset_haltReported (s : State) : s.takeReset.HaltReported := by
  simp [State.HaltReported, takeReset_halted]

theorem takeReset_masked (s : State) : s.takeReset.Masked :=
  fun _ => ⟨congrArg Hidden.iPoll s.takeReset_hidden, congrArg Flags.i s.takeReset_flags⟩

/-- A halted step reports HALTED and leaves the core as it is; the boundary leaves `halted`, I and the poll. -/
theorem step_haltReported_and_masked (hmasked : s.Masked) (h : step s = .next t) : t.HaltReported ∧ t.Masked := by
  obtain ⟨queue, -, hs⟩ | ⟨irq, nmi, queue, -, ⟨hh, hs⟩ | ⟨hh, ⟨-, -, hs⟩ | ⟨-, -, -, -, hs⟩ | ⟨-, hs⟩⟩⟩ := step_cases s
  · -- reset
    obtain rfl := Host.Outcome.next.inj (hs.symm.trans h)
    exact ⟨takeReset_haltReported _, takeReset_masked _⟩
  · -- halted
    obtain rfl := Host.Outcome.next.inj (hs.symm.trans h)
    exact ⟨stayHalted_haltReported (s := s.withInputs irq nmi queue) hh, hmasked⟩
  · -- NMI
    obtain rfl := Host.Outcome.next.inj (hs.symm.trans h)
    have hrunning : (s.latched irq nmi queue).acknowledgeNmi.halted = false := hh
    exact ⟨interruptEntry_haltReported hrunning .., interruptEntry_masked _ _⟩
  · -- IRQ
    obtain rfl := Host.Outcome.next.inj (hs.symm.trans h)
    have hrunning : (s.latched irq nmi queue).halted = false := hh
    exact ⟨interruptEntry_haltReported hrunning .., interruptEntry_masked _ _⟩
  · -- the instruction at PC
    have hrunning : (s.latched irq nmi queue).halted = false := hh
    have hlatched : (s.latched irq nmi queue).Masked := hmasked
    exact ⟨exec_haltReported hrunning (hs.symm.trans h), exec_masked hlatched (hs.symm.trans h)⟩

/-- Settles O16: each part of the invariant by its own lemma; a write keeps the form of memory. -/
theorem stepKeepsInv : Obligations.StepKeepsInv := by
  intro s t hinv h
  obtain ⟨hhalted, hmasked⟩ := step_haltReported_and_masked hinv.handler h
  exact ⟨(step_accounted hinv.memory h).wf, cyclesEqualTraceLength s t h, hhalted, hmasked⟩

end Sys2Proof.Machine
end
